-- ==== Sys2Proof/Word.lean ====
section
/-! DEFINITION. The words the block handles: bytes, the 32-bit transaction word, bus addresses, the kind of a
hotspot access, and the plain-data form every memory of the block is held in (spec/20_memory.md R50 to R54). -/

namespace Sys2Proof

/-- One byte: bus data, a display RAM byte, a fetcher register (10_state.md R21 to R26). -/
abbrev Byte := BitVec 8

/-- A 32-bit quantity: the transaction word `T` (30_encoding.md R70), a music accumulator
(10_state.md R27, R28), `randomNumber` (10_state.md R30). -/
abbrev Word := BitVec 32

/-- The bus address `A[11:0]` (20_memory.md R51). -/
abbrev BusAddr := BitVec 12

/-- A memory as plain data: pairs of an address and a byte. The canonical form is `Memory.wf`
(Machine/Ops.lean); a byte that is not listed reads as `Memory.unlisted`. -/
abbrev Memory := List Host.Cell

/-- Bit 30 of a HOTSPOT word: a bus read or a bus write (45_bank_and_mode.md R203). -/
inductive Access
  | read
  | write
  deriving DecidableEq, Repr

end Sys2Proof
end

