-- ==== Sys2Proof/Config.lean ====
section
/-! DEFINITION. The configuration of a block (spec/00_scope.md R8, 10_state.md R39): the counts the register
file is built from, and the OPEN parameters, which the model takes as the argument of construction. -/

namespace Sys2Proof

/-- `NUM_FETCHERS` (00_scope.md R8). -/
abbrev numFetchers : Nat := 8

/-- `NUM_VOICES` (00_scope.md R8). -/
abbrev numVoices : Nat := 3

/-- `BANK_COUNT` (00_scope.md R8). -/
abbrev bankCount : Nat := 6

/-- The number of display RAM pages a `FETCH_PAGE` value may name: pages 0..19 (00_scope.md R8,
41_data_fetchers.md R121). -/
abbrev numPages : Nat := 20

/-- `FETCH_WRAP` (41_data_fetchers.md R120, 90_conflicts.md C3): OPEN, one of two values. -/
inductive FetchWrap
  /-- plain modulo-256 counting, the default -/
  | mod256
  /-- `tops[i]` goes to `bottoms[i]` -/
  | window
  deriving DecidableEq, Repr

/-- The OPEN parameters of 00_scope.md R8 that are fixed at construction: "the model takes it as an
argument". Plain data, so that a run of any configuration can be written out and compared.
DESIGN CHOICE (log 1): the configuration travels in `State.cfg`; no step changes it. -/
structure Config where
  /-- `FETCH_WRAP` -/
  fetchWrap : FetchWrap
  /-- `FETCH_PAGE(i)`, a page 0..19 for each fetcher -/
  fetchPage : Vector (Fin numPages) numFetchers
  /-- `PROG_ROM`, keyed by ROM offset `bank * 4096 + a` (20_memory.md R54) -/
  progRom   : Memory
  /-- `RAM_INIT`, the bytes `displayImage` holds after construction (10_state.md R39) -/
  ramInit   : Memory
  deriving DecidableEq, Repr

/-- The configuration `State.reset` is built from: the spec's default `FETCH_WRAP = MOD256` and
`FETCH_PAGE(i) = i` (00_scope.md R8); no game image, so `PROG_ROM` and `RAM_INIT` list nothing
(DESIGN CHOICE, unsafe, log 1). -/
def Config.default : Config where
  fetchWrap := .mod256
  fetchPage := #v[0, 1, 2, 3, 4, 5, 6, 7]
  progRom   := []
  ramInit   := []

end Sys2Proof
end

