-- ==== Sys2Proof/Syntax.lean ====
section
/-! DEFINITION. The transactions of the block as syntax: one constructor for every row of
spec/opcode_table.json, in the table's order (the four RDRSV rows, the six HOTSPOT rows and the three
WIGN rows are constructors of their own, log 12). Operands are those of spec/30_encoding.md R74, R80;
data bits the spec ignores (a read's `D`, `RRESET`'s and a hotspot write's `D`) are no operand (log 11). -/

namespace Sys2Proof

/-- A transaction. `i` is a fetcher 0..7, `v` a voice 0..2, `k` a byte lane 0..3, `a` a bus address,
`d` the written byte (00_scope.md R11). -/
inductive Instr
  -- bus reads (30_encoding.md R75)
  /-- `RANDOM k`, read at 0x000 + k -/
  | random (k : Fin 4)
  /-- `AMPLITUDE`, read at 0x004 -/
  | amplitude
  /-- `RDRSV`, read at 0x005 -/
  | rdrsv005
  /-- `RDRSV`, read at 0x006 + x -/
  | rdrsv006 (x : Fin 2)
  /-- `DFDATA i`, read at 0x008 + i -/
  | dfdata (i : Fin 8)
  /-- `DFFRAC i`, read at 0x010 + i -/
  | dffrac (i : Fin 8)
  /-- `RDRSV`, read at 0x018 + x -/
  | rdrsv018 (x : Fin 8)
  /-- `RDRSV`, read at 0x020 + x -/
  | rdrsv020 (x : Fin 8)
  /-- `HOTSPOT 0`, read or write at 0xFF6 -/
  | hotspot0 (rw : Access)
  /-- `HOTSPOT 1`, read or write at 0xFF7 -/
  | hotspot1 (rw : Access)
  /-- `HOTSPOT 2`, read or write at 0xFF8 -/
  | hotspot2 (rw : Access)
  /-- `HOTSPOT 3`, read or write at 0xFF9 -/
  | hotspot3 (rw : Access)
  /-- `HOTSPOT 4`, read or write at 0xFFA -/
  | hotspot4 (rw : Access)
  /-- `HOTSPOT 5`, read or write at 0xFFB -/
  | hotspot5 (rw : Access)
  /-- `ROMRD a`, read at any other address -/
  | romrd (a : BusAddr)
  -- bus writes (30_encoding.md R76)
  /-- `FRACINT i, d`, write at 0x028 + i -/
  | fracint (i : Fin 8) (d : Byte)
  /-- `FRACINC i, d`, write at 0x030 + i -/
  | fracinc (i : Fin 8) (d : Byte)
  /-- `DFTOP i, d`, write at 0x038 + i -/
  | dftop (i : Fin 8) (d : Byte)
  /-- `DFBOT i, d`, write at 0x040 + i -/
  | dfbot (i : Fin 8) (d : Byte)
  /-- `DFLOW i, d`, write at 0x048 + i -/
  | dflow (i : Fin 8) (d : Byte)
  /-- `FASTFETCH d`, write at 0x050 -/
  | fastfetch (d : Byte)
  /-- `IMMLDA d`, write at 0x051 -/
  | immlda (d : Byte)
  /-- `WIGN`, write at 0x057 -/
  | wign057 (d : Byte)
  /-- `WAVEFORM v, d`, write at 0x054 + v -/
  | waveform (v : Fin 3) (d : Byte)
  /-- `DFWRITE i, d`, write at 0x058 + i -/
  | dfwrite (i : Fin 8) (d : Byte)
  /-- `RWRITE k, d`, write at 0x060 + k -/
  | rwrite (k : Fin 4) (d : Byte)
  /-- `RRESET`, write at 0x064 -/
  | rreset
  /-- `PARAM i, d`, write at 0x068 + i -/
  | param (i : Fin 8) (d : Byte)
  /-- `WIGN`, write at 0x073 -/
  | wign073 (d : Byte)
  /-- `NOTE v, d`, write at 0x070 + v -/
  | note (v : Fin 3) (d : Byte)
  /-- `WIGN a, d`, write at any other address -/
  | wign (a : BusAddr) (d : Byte)
  -- the clock tick (30_encoding.md R72)
  /-- `TICK fe, fr, mu, rn` -/
  | tick (fe fr : BitVec 8) (mu : BitVec 3) (rn : Bool)
  -- debug commands (30_encoding.md R73)
  /-- `DBG.SNAPSHOT` -/
  | dbgSnapshot
  /-- `DBG.READRAM start, count` -/
  | dbgReadram (start count : BitVec 13)
  /-- `DBG.CURRENTRAM start, count` -/
  | dbgCurrentram (start count : BitVec 13)
  /-- `DBG.WRITERAM addr, value` -/
  | dbgWriteram (addr : BitVec 13) (value : Byte)
  /-- `DBG.FORCEBANK n` -/
  | dbgForcebank (n : BitVec 26)
  /-- `DBG.UNLOCK` -/
  | dbgUnlock
  /-- `DBG.LOCK` -/
  | dbgLock
  /-- `DBG.SETLOCK b` -/
  | dbgSetlock (b : Bool)
  /-- `DBG.REPORT` -/
  | dbgReport
  /-- `DBG.RAMSIZE` -/
  | dbgRamsize
  deriving DecidableEq, Repr

end Sys2Proof
end

