-- ==== Sys2Proof/WellFormed.lean ====
section
/-! DEFINITION. Which terms of `Instr` stand for a transaction. Every operand but two is a field whose type
admits exactly the values the encoding admits (spec/30_encoding.md R74). The two catch-all rows ROMRD and
WIGN are for the addresses no earlier row of their map matches (30_encoding.md R75, R76, R77). -/

namespace Sys2Proof

/-- The bus addresses an earlier read row than `ROMRD` takes: the read registers 0x000..0x027 and the
hotspots 0xFF6..0xFFB (30_encoding.md R75). -/
def readMapped (a : BusAddr) : Bool :=
  decide (a.toNat < 0x028 ∨ (0xFF6 ≤ a.toNat ∧ a.toNat ≤ 0xFFB))

/-- The bus addresses an earlier write row than the catch-all `WIGN` takes (30_encoding.md R76): the
hotspots, 0x028..0x051, 0x054..0x064, 0x068..0x073. -/
def writeMapped (a : BusAddr) : Bool :=
  decide ((0x028 ≤ a.toNat ∧ a.toNat ≤ 0x051) ∨ (0x054 ≤ a.toNat ∧ a.toNat ≤ 0x064) ∨
    (0x068 ≤ a.toNat ∧ a.toNat ≤ 0x073) ∨ (0xFF6 ≤ a.toNat ∧ a.toNat ≤ 0xFFB))

/-- A term is well formed unless it is a catch-all row at an address an earlier row takes. -/
def Instr.wf : Instr → Bool
  | .romrd a  => !readMapped a
  | .wign a _ => !writeMapped a
  | .random _ | .amplitude | .rdrsv005 | .rdrsv006 _ | .dfdata _ | .dffrac _ | .rdrsv018 _ | .rdrsv020 _
  | .hotspot0 _ | .hotspot1 _ | .hotspot2 _ | .hotspot3 _ | .hotspot4 _ | .hotspot5 _
  | .fracint _ _ | .fracinc _ _ | .dftop _ _ | .dfbot _ _ | .dflow _ _ | .fastfetch _ | .immlda _
  | .wign057 _ | .waveform _ _ | .dfwrite _ _ | .rwrite _ _ | .rreset | .param _ _ | .wign073 _ | .note _ _
  | .tick _ _ _ _ | .dbgSnapshot | .dbgReadram _ _ | .dbgCurrentram _ _ | .dbgWriteram _ _
  | .dbgForcebank _ | .dbgUnlock | .dbgLock | .dbgSetlock _ | .dbgReport | .dbgRamsize => true

end Sys2Proof
end

