-- ==== Sys2Proof/Decode.lean ====
section
/-! DEFINITION. Decoding and encoding of transaction words (spec/30_encoding.md R70 to R79): the decoder,
total on every 32-bit word and refusing by name; the encoder; the opcode table as data with its first-match
rule (R77); the mnemonic and the row of every constructor. The word has no byte layout in the spec, it is one
32-bit number (log 13). -/

namespace Sys2Proof

/-- Why a word is refused (30_encoding.md R78); the block's answer to each is the fault `REFUSED`. -/
inductive DecodeError
  /-- port `BUSRD` or `BUSWR` with `T[29:20] != 0` -/
  | busReservedBits
  /-- port `TICK` with `T[29:20] != 0` -/
  | tickReservedBits
  /-- port `DBG` with a reserved operation 10..15 -/
  | debugReservedOp
  /-- port `DBG` with a must-be-zero field of R73 that is not zero -/
  | debugReservedBits
  deriving DecidableEq, Repr

/-! ### Operand assembly (30_encoding.md R74) -/

/-- The byte lane `k = A[1:0]`. -/
def laneOf (a : BusAddr) : Fin 4 := Fin.ofNat 4 a.toNat

/-- The fetcher `i = A[2:0]`. -/
def fetcherOf (a : BusAddr) : Fin 8 := Fin.ofNat 8 a.toNat

/-- The voice `v = A[1:0]`; the value 3 never comes here, its addresses 0x057 and 0x073 being `WIGN` rows
that stand before `WAVEFORM` and `NOTE` (30_encoding.md R77). -/
def voiceOf (a : BusAddr) : Fin 3 := Fin.ofNat 3 (a.toNat % 4)

/-- The hotspot of bank `n` (30_encoding.md R74: `n = A - 0xFF6`; one table row for each). -/
def hotspotOf (n : Fin bankCount) (rw : Access) : Instr :=
  if n = 0 then .hotspot0 rw
  else if n = 1 then .hotspot1 rw
  else if n = 2 then .hotspot2 rw
  else if n = 3 then .hotspot3 rw
  else if n = 4 then .hotspot4 rw
  else .hotspot5 rw

/-- The bank of a hotspot address, `n = A - 0xFF6` (30_encoding.md R74). -/
def bankOf (a : BusAddr) : Fin bankCount := Fin.ofNat bankCount (a.toNat - 0xFF6)

/-- The bus read map, first line that matches (30_encoding.md R75). -/
def decodeRead (a : BusAddr) : Instr :=
  let n := a.toNat
  if n ≤ 0x003 then .random (laneOf a)
  else if n = 0x004 then .amplitude
  else if n = 0x005 then .rdrsv005
  else if n ≤ 0x007 then .rdrsv006 (Fin.ofNat 2 n)
  else if n ≤ 0x00F then .dfdata (fetcherOf a)
  else if n ≤ 0x017 then .dffrac (fetcherOf a)
  else if n ≤ 0x01F then .rdrsv018 (fetcherOf a)
  else if n ≤ 0x027 then .rdrsv020 (fetcherOf a)
  else if 0xFF6 ≤ n ∧ n ≤ 0xFFB then hotspotOf (bankOf a) .read
  else .romrd a

/-- The bus write map, first line that matches (30_encoding.md R76). -/
def decodeWrite (a : BusAddr) (d : Byte) : Instr :=
  let n := a.toNat
  if 0xFF6 ≤ n ∧ n ≤ 0xFFB then hotspotOf (bankOf a) .write
  else if n ≤ 0x027 then .wign a d
  else if n ≤ 0x02F then .fracint (fetcherOf a) d
  else if n ≤ 0x037 then .fracinc (fetcherOf a) d
  else if n ≤ 0x03F then .dftop (fetcherOf a) d
  else if n ≤ 0x047 then .dfbot (fetcherOf a) d
  else if n ≤ 0x04F then .dflow (fetcherOf a) d
  else if n = 0x050 then .fastfetch d
  else if n = 0x051 then .immlda d
  else if n ≤ 0x053 then .wign a d
  else if n = 0x057 then .wign057 d
  else if n ≤ 0x056 then .waveform (voiceOf a) d
  else if n ≤ 0x05F then .dfwrite (fetcherOf a) d
  else if n ≤ 0x063 then .rwrite (laneOf a) d
  else if n = 0x064 then .rreset
  else if n ≤ 0x067 then .wign a d
  else if n ≤ 0x06F then .param (fetcherOf a) d
  else if n = 0x073 then .wign073 d
  else if n ≤ 0x072 then .note (voiceOf a) d
  else .wign a d

/-- The tick format: `x` is `T[19:0]` (30_encoding.md R72). -/
def decodeTick (x : BitVec 20) : Instr :=
  .tick (x.extractLsb' 0 8) (x.extractLsb' 8 8) (x.extractLsb' 16 3) (x.getLsbD 19)

/-- The debug format: `op` is `T[29:26]`, `x` is `T[25:0]` (30_encoding.md R73). -/
def decodeDebug (op : BitVec 4) (x : BitVec 26) : Except DecodeError Instr :=
  match op.toNat with
  | 0 => if x = 0#26 then .ok .dbgSnapshot else .error .debugReservedBits
  | 1 => .ok (.dbgReadram (x.extractLsb' 13 13) (x.extractLsb' 0 13))
  | 2 => .ok (.dbgCurrentram (x.extractLsb' 13 13) (x.extractLsb' 0 13))
  | 3 => if x.extractLsb' 8 5 = 0#5 then .ok (.dbgWriteram (x.extractLsb' 13 13) (x.extractLsb' 0 8))
         else .error .debugReservedBits
  | 4 => .ok (.dbgForcebank x)
  | 5 => if x = 0#26 then .ok .dbgUnlock else .error .debugReservedBits
  | 6 => if x = 0#26 then .ok .dbgLock else .error .debugReservedBits
  | 7 => if x.extractLsb' 1 25 = 0#25 then .ok (.dbgSetlock (x.getLsbD 0)) else .error .debugReservedBits
  | 8 => if x = 0#26 then .ok .dbgReport else .error .debugReservedBits
  | 9 => if x = 0#26 then .ok .dbgRamsize else .error .debugReservedBits
  | _ => .error .debugReservedOp

/-- The decoder (30_encoding.md R70, R77, R78): total on every word. -/
def decode (w : Word) : Except DecodeError Instr :=
  match (w.extractLsb' 30 2).toNat with
  | 0 => if w.extractLsb' 20 10 = 0#10 then .ok (decodeRead (w.extractLsb' 8 12))
         else .error .busReservedBits
  | 1 => if w.extractLsb' 20 10 = 0#10 then .ok (decodeWrite (w.extractLsb' 8 12) (w.extractLsb' 0 8))
         else .error .busReservedBits
  | 2 => if w.extractLsb' 20 10 = 0#10 then .ok (decodeTick (w.extractLsb' 0 20))
         else .error .tickReservedBits
  | _ => decodeDebug (w.extractLsb' 26 4) (w.extractLsb' 0 26)

/-- The decoder on an instruction's bits numbered as spec/opcode_table.json numbers them. Every row is one
32-bit word (30_encoding.md R79); a number that does not fit one word is no transaction. -/
def decodeTableWord (_nbits w : Nat) : Option Instr :=
  if w < 2 ^ 32 then (decode (BitVec.ofNat 32 w)).toOption else none

/-! ### Encoder (30_encoding.md R71 to R73, R80) -/

/-- A bus word: port, ten zero bits, `A`, `D` (30_encoding.md R71). -/
def busWord (port : BitVec 2) (a : BusAddr) (d : Byte) : Word := port ++ 0#10 ++ a ++ d

/-- A bus read; "A read's `D` field assembles as 0" (30_encoding.md R80). -/
def readWord (a : BusAddr) : Word := busWord 0b00#2 a 0#8

/-- A bus write. -/
def writeWord (a : BusAddr) (d : Byte) : Word := busWord 0b01#2 a d

/-- The word of a hotspot access at `a`; a write assembles `D = 0` (30_encoding.md R80). -/
def hotspotWord (a : BusAddr) : Access → Word
  | .read  => readWord a
  | .write => writeWord a 0#8

/-- A tick word (30_encoding.md R72). -/
def tickWord (fe fr : BitVec 8) (mu : BitVec 3) (rn : Bool) : Word :=
  0b10#2 ++ 0#10 ++ BitVec.ofBool rn ++ mu ++ fr ++ fe

/-- A debug word (30_encoding.md R73). -/
def debugWord (op : BitVec 4) (x : BitVec 26) : Word := 0b11#2 ++ op ++ x

/-- Register `x` of a block of registers that begins at bus address `base` (30_encoding.md R75, R76). -/
def regAddr (base : Nat) {n : Nat} (x : Fin n) : BusAddr := BitVec.ofNat 12 (base + x.val)

/-- The word of a transaction (30_encoding.md R71 to R76, R80). -/
def encode : Instr → Word
  | .random k   => readWord (regAddr 0x000 k)
  | .amplitude  => readWord 0x004#12
  | .rdrsv005   => readWord 0x005#12
  | .rdrsv006 x => readWord (regAddr 0x006 x)
  | .dfdata i   => readWord (regAddr 0x008 i)
  | .dffrac i   => readWord (regAddr 0x010 i)
  | .rdrsv018 x => readWord (regAddr 0x018 x)
  | .rdrsv020 x => readWord (regAddr 0x020 x)
  | .hotspot0 rw => hotspotWord 0xFF6#12 rw
  | .hotspot1 rw => hotspotWord 0xFF7#12 rw
  | .hotspot2 rw => hotspotWord 0xFF8#12 rw
  | .hotspot3 rw => hotspotWord 0xFF9#12 rw
  | .hotspot4 rw => hotspotWord 0xFFA#12 rw
  | .hotspot5 rw => hotspotWord 0xFFB#12 rw
  | .romrd a    => readWord a
  | .fracint i d => writeWord (regAddr 0x028 i) d
  | .fracinc i d => writeWord (regAddr 0x030 i) d
  | .dftop i d  => writeWord (regAddr 0x038 i) d
  | .dfbot i d  => writeWord (regAddr 0x040 i) d
  | .dflow i d  => writeWord (regAddr 0x048 i) d
  | .fastfetch d => writeWord 0x050#12 d
  | .immlda d   => writeWord 0x051#12 d
  | .wign057 d  => writeWord 0x057#12 d
  | .waveform v d => writeWord (regAddr 0x054 v) d
  | .dfwrite i d => writeWord (regAddr 0x058 i) d
  | .rwrite k d => writeWord (regAddr 0x060 k) d
  | .rreset     => writeWord 0x064#12 0#8
  | .param i d  => writeWord (regAddr 0x068 i) d
  | .wign073 d  => writeWord 0x073#12 d
  | .note v d   => writeWord (regAddr 0x070 v) d
  | .wign a d   => writeWord a d
  | .tick fe fr mu rn => tickWord fe fr mu rn
  | .dbgSnapshot => debugWord 0#4 0#26
  | .dbgReadram start count => debugWord 1#4 (start ++ count)
  | .dbgCurrentram start count => debugWord 2#4 (start ++ count)
  | .dbgWriteram addr value => debugWord 3#4 (addr ++ 0#5 ++ value)
  | .dbgForcebank n => debugWord 4#4 n
  | .dbgUnlock  => debugWord 5#4 0#26
  | .dbgLock    => debugWord 6#4 0#26
  | .dbgSetlock b => debugWord 7#4 (0#25 ++ BitVec.ofBool b)
  | .dbgReport  => debugWord 8#4 0#26
  | .dbgRamsize => debugWord 9#4 0#26

/-- Does the block ignore the data field `T[7:0]` of this transaction's words: every bus read
(30_encoding.md R71), a hotspot write (45_bank_and_mode.md R203) and `RRESET` (44_random.md R182)? -/
def Instr.ignoresData : Instr → Bool
  | .random _ | .amplitude | .rdrsv005 | .rdrsv006 _ | .dfdata _ | .dffrac _ | .rdrsv018 _ | .rdrsv020 _
  | .hotspot0 _ | .hotspot1 _ | .hotspot2 _ | .hotspot3 _ | .hotspot4 _ | .hotspot5 _ | .romrd _
  | .rreset => true
  | .fracint _ _ | .fracinc _ _ | .dftop _ _ | .dfbot _ _ | .dflow _ _ | .fastfetch _ | .immlda _
  | .wign057 _ | .waveform _ _ | .dfwrite _ _ | .rwrite _ _ | .param _ _ | .wign073 _ | .note _ _ | .wign _ _
  | .tick _ _ _ _ | .dbgSnapshot | .dbgReadram _ _ | .dbgCurrentram _ _ | .dbgWriteram _ _
  | .dbgForcebank _ | .dbgUnlock | .dbgLock | .dbgSetlock _ | .dbgReport | .dbgRamsize => false

/-! ### The opcode table as data (spec/opcode_table.json, 30_encoding.md R77) -/

/-- One row of the table: a word `T` is the row's when `(T & mask) == pattern`. -/
structure OpcodeRow where
  mnemonic : String
  pattern  : Word
  mask     : Word
  deriving DecidableEq, Repr

/-- Does the row match the word (30_encoding.md R77)? -/
def OpcodeRow.hits (r : OpcodeRow) (w : Word) : Bool := w &&& r.mask == r.pattern

/-- Rows 0 to 14: the bus reads and the hotspots. -/
def readRows : List OpcodeRow := [
  ⟨"RANDOM",    0x00000000, 0xFFFFFC00⟩, ⟨"AMPLITUDE", 0x00000400, 0xFFFFFF00⟩,
  ⟨"RDRSV",     0x00000500, 0xFFFFFF00⟩, ⟨"RDRSV",     0x00000600, 0xFFFFFE00⟩,
  ⟨"DFDATA",    0x00000800, 0xFFFFF800⟩, ⟨"DFFRAC",    0x00001000, 0xFFFFF800⟩,
  ⟨"RDRSV",     0x00001800, 0xFFFFF800⟩, ⟨"RDRSV",     0x00002000, 0xFFFFF800⟩,
  ⟨"HOTSPOT",   0x000FF600, 0xBFFFFF00⟩, ⟨"HOTSPOT",   0x000FF700, 0xBFFFFF00⟩,
  ⟨"HOTSPOT",   0x000FF800, 0xBFFFFF00⟩, ⟨"HOTSPOT",   0x000FF900, 0xBFFFFF00⟩,
  ⟨"HOTSPOT",   0x000FFA00, 0xBFFFFF00⟩, ⟨"HOTSPOT",   0x000FFB00, 0xBFFFFF00⟩,
  ⟨"ROMRD",     0x00000000, 0xFFF00000⟩]

/-- Rows 15 to 30: the bus writes. -/
def writeRows : List OpcodeRow := [
  ⟨"FRACINT",   0x40002800, 0xFFFFF800⟩, ⟨"FRACINC",   0x40003000, 0xFFFFF800⟩,
  ⟨"DFTOP",     0x40003800, 0xFFFFF800⟩, ⟨"DFBOT",     0x40004000, 0xFFFFF800⟩,
  ⟨"DFLOW",     0x40004800, 0xFFFFF800⟩, ⟨"FASTFETCH", 0x40005000, 0xFFFFFF00⟩,
  ⟨"IMMLDA",    0x40005100, 0xFFFFFF00⟩, ⟨"WIGN",      0x40005700, 0xFFFFFF00⟩,
  ⟨"WAVEFORM",  0x40005400, 0xFFFFFC00⟩, ⟨"DFWRITE",   0x40005800, 0xFFFFF800⟩,
  ⟨"RWRITE",    0x40006000, 0xFFFFFC00⟩, ⟨"RRESET",    0x40006400, 0xFFFFFF00⟩,
  ⟨"PARAM",     0x40006800, 0xFFFFF800⟩, ⟨"WIGN",      0x40007300, 0xFFFFFF00⟩,
  ⟨"NOTE",      0x40007000, 0xFFFFFC00⟩, ⟨"WIGN",      0x40000000, 0xFFF00000⟩]

/-- Rows 31 to 41: the tick and the debug commands. -/
def tickAndDebugRows : List OpcodeRow := [
  ⟨"TICK",           0x80000000, 0xFFF00000⟩, ⟨"DBG.SNAPSHOT",   0xC0000000, 0xFFFFFFFF⟩,
  ⟨"DBG.READRAM",    0xC4000000, 0xFC000000⟩, ⟨"DBG.CURRENTRAM", 0xC8000000, 0xFC000000⟩,
  ⟨"DBG.WRITERAM",   0xCC000000, 0xFC001F00⟩, ⟨"DBG.FORCEBANK",  0xD0000000, 0xFC000000⟩,
  ⟨"DBG.UNLOCK",     0xD4000000, 0xFFFFFFFF⟩, ⟨"DBG.LOCK",       0xD8000000, 0xFFFFFFFF⟩,
  ⟨"DBG.SETLOCK",    0xDC000000, 0xFFFFFFFE⟩, ⟨"DBG.REPORT",     0xE0000000, 0xFFFFFFFF⟩,
  ⟨"DBG.RAMSIZE",    0xE4000000, 0xFFFFFFFF⟩]

/-- The 42 rows of spec/opcode_table.json, in the order they stand there. -/
def opcodeTable : List OpcodeRow := readRows ++ (writeRows ++ tickAndDebugRows)

/-- The number of the first row that matches the word, none where no row does (30_encoding.md R77). -/
def firstMatch (w : Word) : Option Nat := opcodeTable.findIdx? (fun r => r.hits w)

/-- The number of a constructor's row in `opcodeTable`. -/
def Instr.rowIndex : Instr → Nat
  | .random _ => 0 | .amplitude => 1 | .rdrsv005 => 2 | .rdrsv006 _ => 3 | .dfdata _ => 4 | .dffrac _ => 5
  | .rdrsv018 _ => 6 | .rdrsv020 _ => 7 | .hotspot0 _ => 8 | .hotspot1 _ => 9 | .hotspot2 _ => 10
  | .hotspot3 _ => 11 | .hotspot4 _ => 12 | .hotspot5 _ => 13 | .romrd _ => 14 | .fracint _ _ => 15
  | .fracinc _ _ => 16 | .dftop _ _ => 17 | .dfbot _ _ => 18 | .dflow _ _ => 19 | .fastfetch _ => 20
  | .immlda _ => 21 | .wign057 _ => 22 | .waveform _ _ => 23 | .dfwrite _ _ => 24 | .rwrite _ _ => 25
  | .rreset => 26 | .param _ _ => 27 | .wign073 _ => 28 | .note _ _ => 29 | .wign _ _ => 30
  | .tick _ _ _ _ => 31 | .dbgSnapshot => 32 | .dbgReadram _ _ => 33 | .dbgCurrentram _ _ => 34
  | .dbgWriteram _ _ => 35 | .dbgForcebank _ => 36 | .dbgUnlock => 37 | .dbgLock => 38 | .dbgSetlock _ => 39
  | .dbgReport => 40 | .dbgRamsize => 41

/-- The row of a constructor. -/
def Instr.opcodeRow (i : Instr) : OpcodeRow := opcodeTable.getD i.rowIndex ⟨"", 0, 0⟩

end Sys2Proof
end

