-- ==== Sys2Proof/Machine/Params.lean ====
section
/-! DEFINITION. The parameter values the spec fixes (spec/00_scope.md R8). Several are, by the spec's own mark,
taken from general knowledge of the real chip (93_implementation_defined.md G3 to G13); the model takes them as
the spec gives them (UNVERIFIED of the real chip, log 10). -/

namespace Sys2Proof.Machine

/-- `RAM_SIZE`: 5120 bytes of display RAM (10_state.md R33). -/
def ramSize : Nat := 5120

/-- `BANK_SIZE`: 4096 bytes (20_memory.md R54). -/
def bankSize : Nat := 4096

/-- The size of `PROG_ROM`: `BANK_COUNT * BANK_SIZE` (10_state.md R39). -/
def romSize : Nat := bankCount * bankSize

/-- `HOTSPOT_BASE` (45_bank_and_mode.md R200). -/
def hotspotBase : Nat := 0xFF6

/-- `RESET_BANK` (10_state.md R41). -/
def resetBank : Fin bankCount := 5

/-- `WAVE_BASE` (43_music_mixer.md R162). -/
def waveBase : Nat := 0x0000

/-- `FREQ_BASE` (43_music_mixer.md R164). -/
def freqBase : Nat := 0x1000

/-- `RNG_SEED` (44_random.md R182). -/
def rngSeed : Word := 0x2B435044#32

end Sys2Proof.Machine
end

