-- ==== Sys2Proof/Machine/State.lean ====
section
/-! DEFINITION. The state of the block as plain data (spec/10_state.md R20 to R41), the results of
transactions (40_transactions.md R100), the reasons a step stops, and the state after construction
(10_state.md R41, 70_reset_and_hazards.md R280). -/

namespace Sys2Proof.Machine

/-- The register file ChipRegisters (10_state.md R20): every element of rules R21 to R33. -/
structure ChipRegisters where
  /-- upper window bound of each fetcher (R21) -/
  tops                 : Vector Byte numFetchers
  /-- lower window bound of each fetcher (R22) -/
  bottoms              : Vector Byte numFetchers
  /-- current fetch position of each fetcher (R23) -/
  counters             : Vector Byte numFetchers
  /-- fixed-point accumulators, integer part 15:8, fraction 7:0 (R24) -/
  fractionalCounters   : Vector (BitVec 16) numFetchers
  /-- step of each accumulator in units of 1/256 (R25) -/
  fractionalIncrements : Vector Byte numFetchers
  /-- special-function arguments, stored only (R26) -/
  parameter            : Vector Byte numFetchers
  /-- music accumulators (R27) -/
  musicCounters        : Vector Word numVoices
  /-- music increment rates (R28) -/
  musicFrequencies     : Vector Word numVoices
  /-- waveform selectors (R29) -/
  musicWaveforms       : Vector (BitVec 4) numVoices
  /-- LFSR state (R30) -/
  randomNumber         : Word
  /-- selected program bank, always one of 0..5 (R31; the type holds the invariant, log 9) -/
  currentBank          : Fin bankCount
  /-- mode flag exported to the host (R32) -/
  fastFetch            : Bool
  /-- mode flag exported to the host (R32) -/
  immediateLDA         : Bool
  /-- display RAM (R33) -/
  displayImage         : Memory
  deriving DecidableEq, Repr

/-- One entry of the report list, an element of the register file (47_debug_port.md R233: "Each array
element is its own entry"). The constructor is the entry's name (log 15). -/
inductive Field
  | tops (i : Fin numFetchers)
  | bottoms (i : Fin numFetchers)
  | counters (i : Fin numFetchers)
  | fractionalCounters (i : Fin numFetchers)
  | fractionalIncrements (i : Fin numFetchers)
  | parameter (i : Fin numFetchers)
  | musicCounters (v : Fin numVoices)
  | musicFrequencies (v : Fin numVoices)
  | musicWaveforms (v : Fin numVoices)
  | randomNumber
  | currentBank
  | fastFetch
  | immediateLDA
  | displayImage (a : Nat)
  deriving DecidableEq, Repr

/-- One entry of a report: `(name, cur, cur != snap)` (47_debug_port.md R232). -/
structure ReportEntry where
  field   : Field
  current : Nat
  changed : Bool
  deriving DecidableEq, Repr

/-- The error codes (60_exceptions.md R261). -/
inductive ErrorCode
  /-- 1: rejected, silent -/
  | invalidBank
  /-- 2: rejected, returned -/
  | ramBounds
  /-- 3: fault -/
  | lockMismatch
  /-- 4: fault -/
  | refused
  deriving DecidableEq, Repr

/-- The result of a transaction (40_transactions.md R100). -/
inductive Result
  /-- nothing: bus writes, TICK, most debug commands, a fault (log 5) -/
  | nothing
  /-- the byte of a bus read -/
  | byte (b : Byte)
  /-- the bytes of `DBG.READRAM`, `DBG.CURRENTRAM` -/
  | bytes (bs : List Byte)
  /-- the number of `DBG.RAMSIZE` -/
  | size (n : Nat)
  /-- `DBG.REPORT`: `snapTaken` and the entries -/
  | report (snapTaken : Bool) (entries : List ReportEntry)
  /-- a rejected request: its code and the two operands it records (60_exceptions.md R261) -/
  | rejected (code : ErrorCode) (first second : Nat)
  deriving DecidableEq, Repr

/-- The two sticky faults (10_state.md R36). -/
inductive FaultKind
  /-- `LOCK_MISMATCH` (60_exceptions.md R264) -/
  | lockMismatch
  /-- `REFUSED` (60_exceptions.md R265) -/
  | refused
  deriving DecidableEq, Repr

/-- A recorded fault with what it records (60_exceptions.md R261, column "records"): the command word or the
word `T`; none for the end of a run, where no word stands (log 6). -/
structure FaultRecord where
  kind : FaultKind
  word : Option Word
  deriving DecidableEq, Repr

/-- Why `step` stops with a fault: the block is stuck because its state holds a fault, "if S.fault != NONE the
block has no step" (40_transactions.md R100, 60_exceptions.md R266). -/
inductive Fault
  /-- raised by `step` alone, in a state that holds `LOCK_MISMATCH`; safe: the spec's own stuck state (log 7) -/
  | stuckLockMismatch
  /-- raised by `step` alone, in a state that holds `REFUSED`; safe: the spec's own stuck state (log 7) -/
  | stuckRefused
  deriving DecidableEq, Repr

/-- Why `step` refuses. -/
inductive Refusal
  /-- an instruction without a meaning, raised by an arm of `exec` alone; safe. No arm raises it: every
  instruction of the table has its meaning -/
  | notModelled (mnemonic : String)
  /-- raised by `step` alone, when no transaction word waits: the run has ended (40_transactions.md R108) and the
  block, which has no agent of its own, does nothing; safe (log 3) -/
  | endOfRun
  deriving DecidableEq, Repr

/-- The machine: the spec's state (10_state.md R20 to R36), the configuration it was constructed with
(R39, log 1) and two fields of the model's own, the words still to come (log 2) and the last result (log 4). -/
structure State where
  /-- configuration, never written (10_state.md R39) -/
  cfg         : Config
  /-- the register file (R20) -/
  regs        : ChipRegisters
  /-- while set, `switchBank` does nothing (R34) -/
  bankLocked  : Bool
  /-- set between an `unlockBank` and its `lockBank` (R34) -/
  bracketOpen : Bool
  /-- the value of `bankLocked` that `lockBank` restores (R34) -/
  savedLock   : Bool
  /-- the debug port's copy of the register file (R35) -/
  snapshot    : ChipRegisters
  /-- a snapshot has been taken (R35) -/
  snapTaken   : Bool
  /-- `NONE` or the first fault recorded (R36) -/
  fault       : Option FaultRecord
  /-- the model's own: the transaction words of the run still to be performed, next one first -/
  pending     : List Word
  /-- the model's own: the result of the last transaction -/
  result      : Result
  deriving DecidableEq, Repr

/-- A register file with every element 0: the construction snapshot (10_state.md R41, 90_conflicts.md C5). -/
def ChipRegisters.zero : ChipRegisters where
  tops                 := Vector.replicate numFetchers 0#8
  bottoms              := Vector.replicate numFetchers 0#8
  counters             := Vector.replicate numFetchers 0#8
  fractionalCounters   := Vector.replicate numFetchers 0#16
  fractionalIncrements := Vector.replicate numFetchers 0#8
  parameter            := Vector.replicate numFetchers 0#8
  musicCounters        := Vector.replicate numVoices 0#32
  musicFrequencies     := Vector.replicate numVoices 0#32
  musicWaveforms       := Vector.replicate numVoices 0#4
  randomNumber         := 0#32
  currentBank          := 0
  fastFetch            := false
  immediateLDA         := false
  displayImage         := []

/-- Construction from a configuration, the block's only reset (10_state.md R41, R42;
70_reset_and_hazards.md R280): "every register zero, except `randomNumber = RNG_SEED`,
`currentBank = RESET_BANK = 5`, `displayImage = RAM_INIT`; lock, bracket, snapshot and fault clear". -/
def State.construct (cfg : Config) : State where
  cfg         := cfg
  regs        := { ChipRegisters.zero with
                     randomNumber := rngSeed, currentBank := resetBank, displayImage := cfg.ramInit }
  bankLocked  := false
  bracketOpen := false
  savedLock   := false
  snapshot    := ChipRegisters.zero
  snapTaken   := false
  fault       := none
  pending     := []
  result      := .nothing

/-- The machine right after reset, with the spec's default parameters and no game image (log 1). -/
def State.reset : State := State.construct Config.default

end Sys2Proof.Machine
end

