-- ==== Sys2Proof/Machine/Ops.lean ====
section
/-! DEFINITION. The named operations the meanings are written over: the memories, the register file's
reads and writes, how a transaction ends (completed, rejected, fault, refused; spec/60_exceptions.md R260),
and the end of a run (40_transactions.md R108). -/

namespace Sys2Proof.Machine

/-! ### Memories (20_memory.md R52, R54; 00_scope.md R10) -/

/-- What a byte that no pair lists reads as, in each of the block's memories (DESIGN CHOICE, log 8). -/
def Memory.unlisted : Byte := 0x00#8

/-- One byte of a memory. -/
def Memory.read : Memory → Nat → Byte
  | [], _ => Memory.unlisted
  | (k, b) :: m, a => if k = a then b else Memory.read m a

/-- Put a listed byte in its place, before the first larger address. -/
def Memory.insert : Memory → Nat → Byte → Memory
  | [], a, v => [(a, v)]
  | (k, b) :: m, a, v =>
    if a < k then (a, v) :: (k, b) :: m
    else if a = k then (a, v) :: m
    else (k, b) :: Memory.insert m a v

/-- Drop an address from the list. -/
def Memory.erase : Memory → Nat → Memory
  | [], _ => []
  | (k, b) :: m, a => if k = a then Memory.erase m a else (k, b) :: Memory.erase m a

/-- Write one byte (`MemWrite(addr, 1, v)`, 00_scope.md R10), keeping the canonical form. -/
def Memory.write (m : Memory) (a : Nat) (v : Byte) : Memory :=
  if v = Memory.unlisted then Memory.erase m a else Memory.insert m a v

/-- `n` bytes as one little-endian number (`MemRead(addr, n)`, 00_scope.md R10; 20_memory.md R55). -/
def Memory.readLE (m : Memory) (a : Nat) : Nat → Nat
  | 0     => 0
  | n + 1 => (Memory.read m a).toNat + 256 * Memory.readLE m (a + 1) n

/-- `n` bytes as a list, lowest address first (47_debug_port.md R234, R235). -/
def Memory.bytes (m : Memory) (a n : Nat) : List Byte :=
  (List.range n).map (fun j => Memory.read m (a + j))

/-- Addresses rising strictly from `lo`, all below `hi`, no byte the value an unlisted address reads as. -/
def Memory.wfFrom (hi : Nat) : Nat → Memory → Bool
  | _, [] => true
  | lo, (a, b) :: m => lo ≤ a && a < hi && b != Memory.unlisted && Memory.wfFrom hi (a + 1) m

/-- The canonical form of a memory of `size` bytes: equal memories are equal lists. -/
def Memory.wf (size : Nat) (m : Memory) : Bool := Memory.wfFrom size 0 m

/-! ### The register file (00_scope.md R10: `x[i]` reads, `x[i] <- v` writes) -/

/-- `tops[i] <- d` -/
def ChipRegisters.setTop (i : Fin numFetchers) (d : Byte) (r : ChipRegisters) : ChipRegisters :=
  { r with tops := r.tops.set i d }

/-- `bottoms[i] <- d` -/
def ChipRegisters.setBottom (i : Fin numFetchers) (d : Byte) (r : ChipRegisters) : ChipRegisters :=
  { r with bottoms := r.bottoms.set i d }

/-- `counters[i] <- d` -/
def ChipRegisters.setCounter (i : Fin numFetchers) (d : Byte) (r : ChipRegisters) : ChipRegisters :=
  { r with counters := r.counters.set i d }

/-- `fractionalCounters[i] <- x` -/
def ChipRegisters.setFracCounter (i : Fin numFetchers) (x : BitVec 16) (r : ChipRegisters) : ChipRegisters :=
  { r with fractionalCounters := r.fractionalCounters.set i x }

/-- `fractionalIncrements[i] <- d` -/
def ChipRegisters.setFracIncrement (i : Fin numFetchers) (d : Byte) (r : ChipRegisters) : ChipRegisters :=
  { r with fractionalIncrements := r.fractionalIncrements.set i d }

/-- `parameter[i] <- d` -/
def ChipRegisters.setParameter (i : Fin numFetchers) (d : Byte) (r : ChipRegisters) : ChipRegisters :=
  { r with parameter := r.parameter.set i d }

/-- `musicCounters[v] <- x` -/
def ChipRegisters.setMusicCounter (v : Fin numVoices) (x : Word) (r : ChipRegisters) : ChipRegisters :=
  { r with musicCounters := r.musicCounters.set v x }

/-- `musicFrequencies[v] <- x` -/
def ChipRegisters.setMusicFrequency (v : Fin numVoices) (x : Word) (r : ChipRegisters) : ChipRegisters :=
  { r with musicFrequencies := r.musicFrequencies.set v x }

/-- `musicWaveforms[v] <- x` -/
def ChipRegisters.setMusicWaveform (v : Fin numVoices) (x : BitVec 4) (r : ChipRegisters) : ChipRegisters :=
  { r with musicWaveforms := r.musicWaveforms.set v x }

/-- `randomNumber <- x` -/
def ChipRegisters.setRandom (x : Word) (r : ChipRegisters) : ChipRegisters := { r with randomNumber := x }

/-- `currentBank <- n` -/
def ChipRegisters.setBank (n : Fin bankCount) (r : ChipRegisters) : ChipRegisters := { r with currentBank := n }

/-- `fastFetch <- b` -/
def ChipRegisters.setFastFetch (b : Bool) (r : ChipRegisters) : ChipRegisters := { r with fastFetch := b }

/-- `immediateLDA <- b` -/
def ChipRegisters.setImmediateLDA (b : Bool) (r : ChipRegisters) : ChipRegisters := { r with immediateLDA := b }

/-- `MemWrite(a, 1, v)` on the display RAM -/
def ChipRegisters.setByte (a : Nat) (v : Byte) (r : ChipRegisters) : ChipRegisters :=
  { r with displayImage := Memory.write r.displayImage a v }

/-- The value of one element of the register file, as a number (47_debug_port.md R232, R233). -/
def ChipRegisters.get (r : ChipRegisters) : Field → Nat
  | .tops i                 => r.tops[i].toNat
  | .bottoms i              => r.bottoms[i].toNat
  | .counters i             => r.counters[i].toNat
  | .fractionalCounters i   => r.fractionalCounters[i].toNat
  | .fractionalIncrements i => r.fractionalIncrements[i].toNat
  | .parameter i            => r.parameter[i].toNat
  | .musicCounters v        => r.musicCounters[v].toNat
  | .musicFrequencies v     => r.musicFrequencies[v].toNat
  | .musicWaveforms v       => r.musicWaveforms[v].toNat
  | .randomNumber           => r.randomNumber.toNat
  | .currentBank            => r.currentBank.val
  | .fastFetch              => r.fastFetch.toNat
  | .immediateLDA           => r.immediateLDA.toNat
  | .displayImage a         => (Memory.read r.displayImage a).toNat

/-- Change the register file and nothing else. -/
def State.mapRegs (f : ChipRegisters → ChipRegisters) (s : State) : State := { s with regs := f s.regs }

/-- One byte of the display RAM. -/
def State.displayByte (s : State) (a : Nat) : Byte := Memory.read s.regs.displayImage a

/-- `RomRead(bank, a)`: one byte of `PROG_ROM` at `bank * BANK_SIZE + a` (00_scope.md R10, 20_memory.md R59). -/
def State.romRead (s : State) (bank : Fin bankCount) (a : BusAddr) : Byte :=
  Memory.read s.cfg.progRom (bank.val * bankSize + a.toNat)

/-! ### How a transaction ends (60_exceptions.md R260, R261) -/

/-- The number of a code (60_exceptions.md R261). -/
def ErrorCode.number : ErrorCode → Nat
  | .invalidBank  => 1
  | .ramBounds    => 2
  | .lockMismatch => 3
  | .refused      => 4

/-- The code of a fault (60_exceptions.md R261). -/
def FaultKind.code : FaultKind → ErrorCode
  | .lockMismatch => .lockMismatch
  | .refused      => .refused

/-- Completed: the rule's state change and the transaction's result (40_transactions.md R100, log 4). -/
def complete (r : Result) (s : State) : Host.Outcome State Fault Refusal := .next { s with result := r }

/-- Rejected with `RAM_BOUNDS(first, second)`: the code is returned, no state changes, the block goes on
(60_exceptions.md R263). -/
def rejectRamBounds (first second : Nat) (s : State) : Host.Outcome State Fault Refusal :=
  complete (.rejected .ramBounds first second) s

/-- `fault <Fault>`: record the sticky fault with what it records and do nothing else (60_exceptions.md R264,
R265, R269). This is the block's whole exception entry: it saves nothing, changes no mode, takes no vector,
and there is no return from it (R266, R269). -/
def recordFault (k : FaultKind) (w : Option Word) (s : State) : Host.Outcome State Fault Refusal :=
  .next { s with fault := some ⟨k, w⟩, result := .nothing }

/-- A debug command that breaks the lock bracket: `LOCK_MISMATCH`, recording the command word
(60_exceptions.md R261, R264). -/
def lockMismatch (command : Instr) (s : State) : Host.Outcome State Fault Refusal :=
  recordFault .lockMismatch (some (encode command)) s

/-- A word that decodes to no row: `REFUSED`, recording the word (60_exceptions.md R265). -/
def refuseWord (w : Word) (s : State) : Host.Outcome State Fault Refusal :=
  recordFault .refused (some w) s

/-- No word is left: a run that ends with an open bracket ends with `LOCK_MISMATCH` (40_transactions.md R108,
47_debug_port.md R243); otherwise the run has ended and there is nothing to do (log 3). -/
def endOfRun (s : State) : Host.Outcome State Fault Refusal :=
  if s.bracketOpen then recordFault .lockMismatch none s else .refused .endOfRun

/-- The stop of a state that holds a fault (60_exceptions.md R266). -/
def FaultKind.stop : FaultKind → Fault
  | .lockMismatch => .stuckLockMismatch
  | .refused      => .stuckRefused

end Sys2Proof.Machine
end

