-- ==== Sys2Proof/Machine/Flags.lean ====
section
/-! DEFINITION. The block's flags. It has no condition flags (spec/10_state.md R38); its 1-bit elements are the
mode flags (R32), the bank-lock bits (R34) and `snapTaken` (R35). -/

namespace Sys2Proof.Machine

/-- The value a mode flag takes from a write of `d`: writing 0 turns it on, any other value off
(45_bank_and_mode.md R206, R207). -/
def modeFlag (d : Byte) : Bool := d == 0#8

/-- `bankLocked <- b` (47_debug_port.md R237, R240). -/
def State.setBankLocked (b : Bool) (s : State) : State := { s with bankLocked := b }

/-- `unlockBank`: save the lock, clear it, open the bracket (47_debug_port.md R238). -/
def State.openBracket (s : State) : State :=
  { s with savedLock := s.bankLocked, bankLocked := false, bracketOpen := true }

/-- `lockBank`: restore the saved lock, close the bracket (47_debug_port.md R239). -/
def State.closeBracket (s : State) : State := { s with bankLocked := s.savedLock, bracketOpen := false }

/-- `snapshot <- copy of every element; snapTaken <- 1` (47_debug_port.md R231). -/
def State.takeSnapshot (s : State) : State := { s with snapshot := s.regs, snapTaken := true }

end Sys2Proof.Machine
end

