-- ==== Sys2Proof/Machine/Operands.lean ====
section
/-! DEFINITION. The operand forms of the block: the display addresses the fetchers and accumulators reach, the
waveform and frequency table addresses, and the byte lanes of `randomNumber`. -/

namespace Sys2Proof.Machine

/-- A display address in fetcher `i`'s page: `FETCH_PAGE(i) * 256 + low`. -/
def pageAddr (cfg : Config) (i : Fin numFetchers) (low : Byte) : Nat := cfg.fetchPage[i].val * 256 + low.toNat

/-- `faddr(i) = FETCH_PAGE(i) * 256 + counters[i]` (41_data_fetchers.md R121). -/
def State.faddr (s : State) (i : Fin numFetchers) : Nat := pageAddr s.cfg i s.regs.counters[i]

/-- The fraction of a fractional accumulator, bits 7:0 (10_state.md R24). -/
def fractionOf (x : BitVec 16) : Byte := x.extractLsb' 0 8

/-- The integer part of a fractional accumulator, bits 15:8 (10_state.md R24). -/
def integerOf (x : BitVec 16) : Byte := x.extractLsb' 8 8

/-- `fraddr(i) = FETCH_PAGE(i) * 256 + fractionalCounters[i][15:8]` (42_fractional.md R141). -/
def State.fraddr (s : State) (i : Fin numFetchers) : Nat :=
  pageAddr s.cfg i (integerOf s.regs.fractionalCounters[i])

/-- `sampleIndex(v) = musicCounters[v][31:27]`, the top `SAMPLE_BITS = 5` bits (43_music_mixer.md R161). -/
def State.sampleIndex (s : State) (v : Fin numVoices) : BitVec 5 := s.regs.musicCounters[v].extractLsb' 27 5

/-- `waddr(v) = WAVE_BASE + 32 * musicWaveforms[v] + sampleIndex(v)` (43_music_mixer.md R162). -/
def State.waddr (s : State) (v : Fin numVoices) : Nat :=
  waveBase + 32 * s.regs.musicWaveforms[v].toNat + (s.sampleIndex v).toNat

/-- The display address of frequency table entry `d`: `FREQ_BASE + 4 * D` (43_music_mixer.md R164). -/
def noteAddr (d : Byte) : Nat := freqBase + 4 * d.toNat

/-- Lane `k` of a 32-bit value, `x[8k+7:8k]`, lane 0 the least significant byte (20_memory.md R55). -/
def laneGet (x : Word) (k : Fin 4) : Byte := x.extractLsb' (8 * k.val) 8

/-- `x[8k+7:8k] <- d`, the other three lanes kept (44_random.md R183). -/
def laneSet (x : Word) (k : Fin 4) (d : Byte) : Word :=
  (x &&& ~~~(0xFF#32 <<< (8 * k.val))) ||| (d.setWidth 32 <<< (8 * k.val))

/-- `RAM_BOUNDS` check of a debug range: is `start + count <= RAM_SIZE` (47_debug_port.md R234)? -/
def rangeInRam (start count : BitVec 13) : Bool := start.toNat + count.toNat ≤ ramSize

end Sys2Proof.Machine
end

