-- ==== Sys2Proof/Machine/Bank.lean ====
section
/-! DEFINITION. Bank switching, hotspots, ROM reads, reserved and ignored addresses, mode flags and parameters
(spec/45_bank_and_mode.md). -/

namespace Sys2Proof.Machine

/-- The internal status of `switchBank` (R201); no transaction passes it on. -/
inductive SwitchStatus
  | ok
  /-- the lock is set, nothing changed -/
  | locked
  /-- `INVALID_BANK`, nothing changed (60_exceptions.md R262) -/
  | invalidBank
  deriving DecidableEq, Repr

/-- `switchBank(n)`: the lock check, then the range check, then the switch (R201; 60_exceptions.md R267). -/
def switchBank (n : Nat) (s : State) : SwitchStatus × State :=
  if s.bankLocked then (.locked, s)
  else if h : n < bankCount then (.ok, s.mapRegs (·.setBank ⟨n, h⟩))
  else (.invalidBank, s)

/-- The bus address of the hotspot of bank `n` (R200). -/
def hotspotAddr (n : Fin bankCount) : BusAddr := BitVec.ofNat 12 (hotspotBase + n.val)

/-- `HOTSPOT n`: a read returns the ROM byte of the bank selected before the access, then switches; a write
switches (R203). -/
def hotspotAccess (n : Fin bankCount) (rw : Access) (s : State) : Host.Outcome State Fault Refusal :=
  match rw with
  | .read  => complete (.byte (s.romRead s.regs.currentBank (hotspotAddr n))) (switchBank n.val s).2
  | .write => complete .nothing (switchBank n.val s).2

/-- `HOTSPOT 0` at 0xFF6 (R203). -/
def execHotspot0 (rw : Access) (s : State) : Host.Outcome State Fault Refusal := hotspotAccess 0 rw s

/-- `HOTSPOT 1` at 0xFF7 (R203). -/
def execHotspot1 (rw : Access) (s : State) : Host.Outcome State Fault Refusal := hotspotAccess 1 rw s

/-- `HOTSPOT 2` at 0xFF8 (R203). -/
def execHotspot2 (rw : Access) (s : State) : Host.Outcome State Fault Refusal := hotspotAccess 2 rw s

/-- `HOTSPOT 3` at 0xFF9 (R203). -/
def execHotspot3 (rw : Access) (s : State) : Host.Outcome State Fault Refusal := hotspotAccess 3 rw s

/-- `HOTSPOT 4` at 0xFFA (R203). -/
def execHotspot4 (rw : Access) (s : State) : Host.Outcome State Fault Refusal := hotspotAccess 4 rw s

/-- `HOTSPOT 5` at 0xFFB (R203). -/
def execHotspot5 (rw : Access) (s : State) : Host.Outcome State Fault Refusal := hotspotAccess 5 rw s

/-- `ROMRD a`: return `RomRead(currentBank, A)` (R202). -/
def execRomrd (a : BusAddr) (s : State) : Host.Outcome State Fault Refusal :=
  complete (.byte (s.romRead s.regs.currentBank a)) s

/-- A reserved read register returns 0x00 (R205). -/
def readReserved (s : State) : Host.Outcome State Fault Refusal := complete (.byte 0x00#8) s

/-- `RDRSV` at 0x005 (R205). -/
def execRdrsv005 (s : State) : Host.Outcome State Fault Refusal := readReserved s

/-- `RDRSV` at 0x006, 0x007 (R205). -/
def execRdrsv006 (_x : Fin 2) (s : State) : Host.Outcome State Fault Refusal := readReserved s

/-- `RDRSV` at 0x018..0x01F (R205). -/
def execRdrsv018 (_x : Fin 8) (s : State) : Host.Outcome State Fault Refusal := readReserved s

/-- `RDRSV` at 0x020..0x027 (R205). -/
def execRdrsv020 (_x : Fin 8) (s : State) : Host.Outcome State Fault Refusal := readReserved s

/-- A write at an address with no register changes nothing (R204). -/
def writeIgnored (s : State) : Host.Outcome State Fault Refusal := complete .nothing s

/-- `WIGN` at 0x057 (R204). -/
def execWign057 (_d : Byte) (s : State) : Host.Outcome State Fault Refusal := writeIgnored s

/-- `WIGN` at 0x073 (R204). -/
def execWign073 (_d : Byte) (s : State) : Host.Outcome State Fault Refusal := writeIgnored s

/-- `WIGN a, d` at any other address (R204). -/
def execWign (_a : BusAddr) (_d : Byte) (s : State) : Host.Outcome State Fault Refusal := writeIgnored s

/-- `FASTFETCH d`: `fastFetch <- (D = 0 ? 1 : 0)` (R206). -/
def execFastfetch (d : Byte) (s : State) : Host.Outcome State Fault Refusal :=
  complete .nothing (s.mapRegs (·.setFastFetch (modeFlag d)))

/-- `IMMLDA d`: `immediateLDA <- (D = 0 ? 1 : 0)` (R207). -/
def execImmlda (d : Byte) (s : State) : Host.Outcome State Fault Refusal :=
  complete .nothing (s.mapRegs (·.setImmediateLDA (modeFlag d)))

/-- `PARAM i, d`: `parameter[i] <- D` (R209). -/
def execParam (i : Fin 8) (d : Byte) (s : State) : Host.Outcome State Fault Refusal :=
  complete .nothing (s.mapRegs (·.setParameter i d))

end Sys2Proof.Machine
end

