-- ==== Sys2Proof/Machine/Fetcher.lean ====
section
/-! DEFINITION. Data fetchers (spec/41_data_fetchers.md): the counter's advance and wrap, and the register
transactions DFDATA, DFLOW, DFTOP, DFBOT, DFWRITE. -/

namespace Sys2Proof.Machine

/-- `next8(c, i)`: the successor of a counter or integer part `c` under the wrap rule (R120). -/
def next8 (wrap : FetchWrap) (top bottom c : Byte) : Byte :=
  match wrap with
  | .mod256 => c + 1#8
  | .window => if c = top then bottom else c + 1#8

/-- `next8` with fetcher `i`'s own window. -/
def State.next8At (s : State) (i : Fin numFetchers) (c : Byte) : Byte :=
  next8 s.cfg.fetchWrap s.regs.tops[i] s.regs.bottoms[i] c

/-- `advanceFetcher(i)`: `counters[i] <- next8(counters[i], i)` (R120). -/
def advanceFetcher (i : Fin numFetchers) (s : State) : State :=
  s.mapRegs (·.setCounter i (s.next8At i s.regs.counters[i]))

/-- `DFDATA i`: return `displayImage[faddr(i)]` (R122). -/
def execDfdata (i : Fin 8) (s : State) : Host.Outcome State Fault Refusal :=
  complete (.byte (s.displayByte (s.faddr i))) s

/-- `DFLOW i, d`: `counters[i] <- D` (R123). -/
def execDflow (i : Fin 8) (d : Byte) (s : State) : Host.Outcome State Fault Refusal :=
  complete .nothing (s.mapRegs (·.setCounter i d))

/-- `DFTOP i, d`: `tops[i] <- D` (R124). -/
def execDftop (i : Fin 8) (d : Byte) (s : State) : Host.Outcome State Fault Refusal :=
  complete .nothing (s.mapRegs (·.setTop i d))

/-- `DFBOT i, d`: `bottoms[i] <- D` (R125). -/
def execDfbot (i : Fin 8) (d : Byte) (s : State) : Host.Outcome State Fault Refusal :=
  complete .nothing (s.mapRegs (·.setBottom i d))

/-- `DFWRITE i, d`: `MemWrite(faddr(i), 1, D)` (R126). -/
def execDfwrite (i : Fin 8) (d : Byte) (s : State) : Host.Outcome State Fault Refusal :=
  complete .nothing (s.mapRegs (·.setByte (s.faddr i) d))

end Sys2Proof.Machine
end

