-- ==== Sys2Proof/Machine/Fractional.lean ====
section
/-! DEFINITION. Fractional-step accumulators (spec/42_fractional.md): the advance, and the register transactions
DFFRAC, FRACINT, FRACINC. -/

namespace Sys2Proof.Machine

/-- `advanceFractional(i)`: add the increment to the fraction exactly, and on a carry move the integer part by
one `next8` (R140). `counters[i]` is not touched. -/
def advanceFractional (i : Fin numFetchers) (s : State) : State :=
  let x   := s.regs.fractionalCounters[i]
  let sum := (fractionOf x).toNat + s.regs.fractionalIncrements[i].toNat
  let n'  := if 256 ≤ sum then s.next8At i (integerOf x) else integerOf x
  s.mapRegs (·.setFracCounter i (n' ++ BitVec.ofNat 8 sum))

/-- `DFFRAC i`: return `displayImage[fraddr(i)]` (R142). -/
def execDffrac (i : Fin 8) (s : State) : Host.Outcome State Fault Refusal :=
  complete (.byte (s.displayByte (s.fraddr i))) s

/-- `FRACINT i, d`: `fractionalCounters[i] <- {D, 0x00}` (R143). -/
def execFracint (i : Fin 8) (d : Byte) (s : State) : Host.Outcome State Fault Refusal :=
  complete .nothing (s.mapRegs (·.setFracCounter i (d ++ 0#8)))

/-- `FRACINC i, d`: `fractionalIncrements[i] <- D`, the fraction cleared, the integer part kept (R144). -/
def execFracinc (i : Fin 8) (d : Byte) (s : State) : Host.Outcome State Fault Refusal :=
  complete .nothing
    ((s.mapRegs (·.setFracIncrement i d)).mapRegs
      (·.setFracCounter i (integerOf s.regs.fractionalCounters[i] ++ 0#8)))

end Sys2Proof.Machine
end

