-- ==== Sys2Proof/Machine/Music.lean ====
section
/-! DEFINITION. Music voices and the three-voice mixer (spec/43_music_mixer.md): the advance, samples and
amplitude, the exported outputs, and the register transactions WAVEFORM, NOTE, AMPLITUDE. -/

namespace Sys2Proof.Machine

/-- `advanceMusic(v)`: `musicCounters[v] <- (musicCounters[v] + musicFrequencies[v]) mod 2^32` (R160). -/
def advanceMusic (v : Fin numVoices) (s : State) : State :=
  s.mapRegs (·.setMusicCounter v (s.regs.musicCounters[v] + s.regs.musicFrequencies[v]))

/-- `sample(v) = displayImage[waddr(v)]` (R162). -/
def State.sample (s : State) (v : Fin numVoices) : Byte := s.displayByte (s.waddr v)

/-- `amplitude = sample(0) + sample(1) + sample(2)`, exact (R165). -/
def State.amplitude (s : State) : Nat := (s.sample 0).toNat + (s.sample 1).toNat + (s.sample 2).toNat

/-- What the block exports as functions of its state (R167; 10_state.md R32; 45_bank_and_mode.md R208). -/
structure Exports where
  sampleIndex  : Vector (BitVec 5) numVoices
  sample       : Vector Byte numVoices
  amplitude    : Nat
  fastFetch    : Bool
  immediateLDA : Bool
  deriving DecidableEq, Repr

/-- The exported outputs of a state (R167). -/
def State.exports (s : State) : Exports where
  sampleIndex  := #v[s.sampleIndex 0, s.sampleIndex 1, s.sampleIndex 2]
  sample       := #v[s.sample 0, s.sample 1, s.sample 2]
  amplitude    := s.amplitude
  fastFetch    := s.regs.fastFetch
  immediateLDA := s.regs.immediateLDA

/-- `WAVEFORM v, d`: `musicWaveforms[v] <- D[3:0]` (R163). -/
def execWaveform (v : Fin 3) (d : Byte) (s : State) : Host.Outcome State Fault Refusal :=
  complete .nothing (s.mapRegs (·.setMusicWaveform v (d.extractLsb' 0 4)))

/-- `NOTE v, d`: `musicFrequencies[v] <- MemRead(FREQ_BASE + 4 * D, 4)` (R164). -/
def execNote (v : Fin 3) (d : Byte) (s : State) : Host.Outcome State Fault Refusal :=
  complete .nothing
    (s.mapRegs (·.setMusicFrequency v (BitVec.ofNat 32 (Memory.readLE s.regs.displayImage (noteAddr d) 4))))

/-- `AMPLITUDE`: return `amplitude[7:0]` (R166). -/
def execAmplitude (s : State) : Host.Outcome State Fault Refusal :=
  complete (.byte (BitVec.ofNat 8 s.amplitude)) s

end Sys2Proof.Machine
end

