-- ==== Sys2Proof/Machine/Random.lean ====
section
/-! DEFINITION. The LFSR pseudo-random generator (spec/44_random.md): the step, and the register transactions
RANDOM, RRESET, RWRITE. The step and the seed are, by the spec's own mark, general knowledge (log 10). -/

namespace Sys2Proof.Machine

/-- `rotr_32(v, n) = ((v >> n) | (v << (32 - n))) mod 2^32` (00_scope.md R9). -/
def rotr32 (x : Word) (n : Nat) : Word := (x >>> n) ||| (x <<< (32 - n))

/-- The feedback constant of `LFSR_STEP` (R180). -/
def lfsrTaps : Word := 0x10ADAB1E#32

/-- `LFSR_STEP(r)`: rotate right by 11, and xor the constant when bit 10 was set (R180). -/
def lfsrStep (r : Word) : Word := if r.getLsbD 10 then rotr32 r 11 ^^^ lfsrTaps else rotr32 r 11

/-- `advanceRandom()` (R180). -/
def advanceRandom (s : State) : State := s.mapRegs (·.setRandom (lfsrStep s.regs.randomNumber))

/-- `RANDOM k`: return `randomNumber[8k+7:8k]` (R181). -/
def execRandom (k : Fin 4) (s : State) : Host.Outcome State Fault Refusal :=
  complete (.byte (laneGet s.regs.randomNumber k)) s

/-- `RRESET`: `randomNumber <- RNG_SEED` (R182). -/
def execRreset (s : State) : Host.Outcome State Fault Refusal :=
  complete .nothing (s.mapRegs (·.setRandom rngSeed))

/-- `RWRITE k, d`: `randomNumber[8k+7:8k] <- D` (R183). -/
def execRwrite (k : Fin 4) (d : Byte) (s : State) : Host.Outcome State Fault Refusal :=
  complete .nothing (s.mapRegs (·.setRandom (laneSet s.regs.randomNumber k d)))

end Sys2Proof.Machine
end

