-- ==== Sys2Proof/Machine/Tick.lean ====
section
/-! DEFINITION. The clock tick (spec/40_transactions.md R104): every strobed unit advances exactly once, fetchers,
accumulators, voices, then the LFSR (the order does not change the result, R104). -/

namespace Sys2Proof.Machine

/-- Fetcher indices in the order of R104's loop. -/
def fetcherList : List (Fin numFetchers) := [0, 1, 2, 3, 4, 5, 6, 7]

/-- Voice indices in the order of R104's loop. -/
def voiceList : List (Fin numVoices) := [0, 1, 2]

/-- `for x in xs: if strobe[x] = 1: advance(x)` (R104). -/
def advanceStrobed {n w : Nat} (strobes : BitVec w) (advance : Fin n → State → State) (xs : List (Fin n))
    (s : State) : State :=
  xs.foldl (fun t x => if strobes.getLsbD x.val then advance x t else t) s

/-- The state after the units a tick strobes have advanced (R104). -/
def tickUnits (fe fr : BitVec 8) (mu : BitVec 3) (rn : Bool) (s : State) : State :=
  let s1 := advanceStrobed fe advanceFetcher fetcherList s
  let s2 := advanceStrobed fr advanceFractional fetcherList s1
  let s3 := advanceStrobed mu advanceMusic voiceList s2
  if rn then advanceRandom s3 else s3

/-- `TICK fe, fr, mu, rn` (R104). -/
def execTick (fe fr : BitVec 8) (mu : BitVec 3) (rn : Bool) (s : State) : Host.Outcome State Fault Refusal :=
  complete .nothing (tickUnits fe fr mu rn s)

end Sys2Proof.Machine
end

