-- ==== Sys2Proof/Machine/Debug.lean ====
section
/-! DEFINITION. The debug port (spec/47_debug_port.md): snapshot and change report, RAM access, bank lock and forced
bank switch, RAM size. -/

namespace Sys2Proof.Machine

/-- The elements of the register file other than the display RAM, in the order of the report list (R233). -/
def registerFields : List Field :=
  fetcherList.map .tops ++ fetcherList.map .bottoms ++ fetcherList.map .counters ++
  fetcherList.map .fractionalCounters ++ fetcherList.map .fractionalIncrements ++ fetcherList.map .parameter ++
  voiceList.map .musicCounters ++ voiceList.map .musicFrequencies ++ voiceList.map .musicWaveforms ++
  [.randomNumber, .currentBank, .fastFetch, .immediateLDA]

/-- The report list: 5181 entries in the order of R233. -/
def reportFields : List Field := registerFields ++ (List.range ramSize).map .displayImage

/-- One entry, `(name, cur, cur != snap)` (R232). -/
def reportEntry (cur snap : ChipRegisters) (f : Field) : ReportEntry :=
  ⟨f, cur.get f, cur.get f != snap.get f⟩

/-- `DBG.SNAPSHOT` (R231). -/
def execDbgSnapshot (s : State) : Host.Outcome State Fault Refusal := complete .nothing s.takeSnapshot

/-- `DBG.REPORT`: `(snapTaken, entries)`, no state changes (R232). -/
def execDbgReport (s : State) : Host.Outcome State Fault Refusal :=
  complete (.report s.snapTaken (reportFields.map (reportEntry s.regs s.snapshot))) s

/-- The bytes of a range, or `RAM_BOUNDS(start, count)` (R234, R235). -/
def readRange (ram : Memory) (start count : BitVec 13) (s : State) : Host.Outcome State Fault Refusal :=
  if rangeInRam start count then complete (.bytes (Memory.bytes ram start.toNat count.toNat)) s
  else rejectRamBounds start.toNat count.toNat s

/-- `DBG.READRAM start, count`: bytes of the snapshot (R234). -/
def execDbgReadram (start count : BitVec 13) (s : State) : Host.Outcome State Fault Refusal :=
  readRange s.snapshot.displayImage start count s

/-- `DBG.CURRENTRAM start, count`: bytes of the live display RAM (R235). -/
def execDbgCurrentram (start count : BitVec 13) (s : State) : Host.Outcome State Fault Refusal :=
  readRange s.regs.displayImage start count s

/-- `DBG.WRITERAM addr, value` (R236). -/
def execDbgWriteram (addr : BitVec 13) (value : Byte) (s : State) : Host.Outcome State Fault Refusal :=
  if ramSize ≤ addr.toNat then rejectRamBounds addr.toNat 1 s
  else complete .nothing (s.mapRegs (·.setByte addr.toNat value))

/-- `DBG.SETLOCK b` (R237). -/
def execDbgSetlock (b : Bool) (s : State) : Host.Outcome State Fault Refusal :=
  if s.bracketOpen then lockMismatch (.dbgSetlock b) s else complete .nothing (s.setBankLocked b)

/-- `DBG.UNLOCK` (R238). -/
def execDbgUnlock (s : State) : Host.Outcome State Fault Refusal :=
  if s.bracketOpen then lockMismatch .dbgUnlock s else complete .nothing s.openBracket

/-- `DBG.LOCK` (R239). -/
def execDbgLock (s : State) : Host.Outcome State Fault Refusal :=
  if s.bracketOpen then complete .nothing s.closeBracket else lockMismatch .dbgLock s

/-- `DBG.FORCEBANK n`: the bracket check, then suspend the lock, switch, restore the lock; the status of the
switch is dropped (R240; 60_exceptions.md R262). -/
def execDbgForcebank (n : BitVec 26) (s : State) : Host.Outcome State Fault Refusal :=
  if s.bracketOpen then lockMismatch (.dbgForcebank n) s
  else complete .nothing ((switchBank n.toNat (s.setBankLocked false)).2.setBankLocked s.bankLocked)

/-- `DBG.RAMSIZE`: return `RAM_SIZE` (R241). -/
def execDbgRamsize (s : State) : Host.Outcome State Fault Refusal := complete (.size ramSize) s

end Sys2Proof.Machine
end

