-- ==== Sys2Proof/Machine/Dispatch.lean ====
section
/-! DEFINITION. The dispatch of a decoded transaction to its meaning (spec/40_transactions.md R100): one arm for
each row of spec/opcode_table.json. -/

namespace Sys2Proof.Machine

def exec (i : Instr) (s : State) : Host.Outcome State Fault Refusal :=
  match i with
  -- bus reads and hotspots
  | .random k => Sys2Proof.Machine.execRandom k s
  | .amplitude => Sys2Proof.Machine.execAmplitude s
  | .rdrsv005 => Sys2Proof.Machine.execRdrsv005 s
  | .rdrsv006 x => Sys2Proof.Machine.execRdrsv006 x s
  | .dfdata j => Sys2Proof.Machine.execDfdata j s
  | .dffrac j => Sys2Proof.Machine.execDffrac j s
  | .rdrsv018 x => Sys2Proof.Machine.execRdrsv018 x s
  | .rdrsv020 x => Sys2Proof.Machine.execRdrsv020 x s
  | .hotspot0 rw => Sys2Proof.Machine.execHotspot0 rw s
  | .hotspot1 rw => Sys2Proof.Machine.execHotspot1 rw s
  | .hotspot2 rw => Sys2Proof.Machine.execHotspot2 rw s
  | .hotspot3 rw => Sys2Proof.Machine.execHotspot3 rw s
  | .hotspot4 rw => Sys2Proof.Machine.execHotspot4 rw s
  | .hotspot5 rw => Sys2Proof.Machine.execHotspot5 rw s
  | .romrd a => Sys2Proof.Machine.execRomrd a s
  -- bus writes
  | .fracint j d => Sys2Proof.Machine.execFracint j d s
  | .fracinc j d => Sys2Proof.Machine.execFracinc j d s
  | .dftop j d => Sys2Proof.Machine.execDftop j d s
  | .dfbot j d => Sys2Proof.Machine.execDfbot j d s
  | .dflow j d => Sys2Proof.Machine.execDflow j d s
  | .fastfetch d => Sys2Proof.Machine.execFastfetch d s
  | .immlda d => Sys2Proof.Machine.execImmlda d s
  | .wign057 d => Sys2Proof.Machine.execWign057 d s
  | .waveform v d => Sys2Proof.Machine.execWaveform v d s
  | .dfwrite j d => Sys2Proof.Machine.execDfwrite j d s
  | .rwrite k d => Sys2Proof.Machine.execRwrite k d s
  | .rreset => Sys2Proof.Machine.execRreset s
  | .param j d => Sys2Proof.Machine.execParam j d s
  | .wign073 d => Sys2Proof.Machine.execWign073 d s
  | .note v d => Sys2Proof.Machine.execNote v d s
  | .wign a d => Sys2Proof.Machine.execWign a d s
  -- the clock tick
  | .tick fe fr mu rn => Sys2Proof.Machine.execTick fe fr mu rn s
  -- debug commands
  | .dbgSnapshot => Sys2Proof.Machine.execDbgSnapshot s
  | .dbgReadram start count => Sys2Proof.Machine.execDbgReadram start count s
  | .dbgCurrentram start count => Sys2Proof.Machine.execDbgCurrentram start count s
  | .dbgWriteram addr value => Sys2Proof.Machine.execDbgWriteram addr value s
  | .dbgForcebank n => Sys2Proof.Machine.execDbgForcebank n s
  | .dbgUnlock => Sys2Proof.Machine.execDbgUnlock s
  | .dbgLock => Sys2Proof.Machine.execDbgLock s
  | .dbgSetlock b => Sys2Proof.Machine.execDbgSetlock b s
  | .dbgReport => Sys2Proof.Machine.execDbgReport s
  | .dbgRamsize => Sys2Proof.Machine.execDbgRamsize s

end Sys2Proof.Machine
end

