-- ==== Sys2Proof/Machine/Step.lean ====
section
/-! DEFINITION. One step of the block (spec/40_transactions.md R100) over the words still to be performed. -/

namespace Sys2Proof.Machine

/-- Perform one transaction word: decode it, then perform its row's rule, or refuse it (40_transactions.md R100,
60_exceptions.md R265, R267). -/
def performWord (w : Word) (s : State) : Host.Outcome State Fault Refusal :=
  match decode w with
  | .ok i    => exec i s
  | .error _ => refuseWord w s

/-- The step: a state that holds a fault has none (60_exceptions.md R266); otherwise the next word of the run is
taken and performed (40_transactions.md R100); with no word left the run ends (R108). -/
def step (s : State) : Host.Outcome State Fault Refusal :=
  match s.fault with
  | some r => .fault r.kind.stop
  | none =>
    match s.pending with
    | []     => endOfRun s
    | w :: p => performWord w { s with pending := p }

/-- `s` with the transaction whose bits are `w` (numbered as spec/opcode_table.json numbers them) as the next word
of the run: the host's next transaction (log 2). -/
def State.withFetchWord (s : State) (_nbits w : Nat) : State :=
  { s with pending := BitVec.ofNat 32 w :: s.pending }

end Sys2Proof.Machine
end

