-- ==== Sys2Proof/Safety.lean ====
section
/-! DEFINITION. The terms claims are made in: which agent issues a transaction, what a transaction may write, what a
transaction leaves unchanged, the invariant of the block's states, and when a run ends well
(spec/40_transactions.md R108). -/

namespace Sys2Proof.Machine

/-- The port of a transaction (30_encoding.md R70). -/
inductive Port
  | busRead
  | busWrite
  | tick
  | debug
  deriving DecidableEq, Repr

/-- The port of an access at a hotspot (45_bank_and_mode.md R203). -/
def accessPort : Access → Port
  | .read  => .busRead
  | .write => .busWrite

/-- The port each transaction comes through (30_encoding.md R70, R75, R76). -/
def portOf : Instr → Port
  | .random _ | .amplitude | .rdrsv005 | .rdrsv006 _ | .dfdata _ | .dffrac _ | .rdrsv018 _ | .rdrsv020 _
  | .romrd _ => .busRead
  | .hotspot0 rw | .hotspot1 rw | .hotspot2 rw | .hotspot3 rw | .hotspot4 rw | .hotspot5 rw => accessPort rw
  | .fracint _ _ | .fracinc _ _ | .dftop _ _ | .dfbot _ _ | .dflow _ _ | .fastfetch _ | .immlda _ | .wign057 _
  | .waveform _ _ | .dfwrite _ _ | .rwrite _ _ | .rreset | .param _ _ | .wign073 _ | .note _ _
  | .wign _ _ => .busWrite
  | .tick _ _ _ _ => .tick
  | .dbgSnapshot | .dbgReadram _ _ | .dbgCurrentram _ _ | .dbgWriteram _ _ | .dbgForcebank _ | .dbgUnlock
  | .dbgLock | .dbgSetlock _ | .dbgReport | .dbgRamsize => .debug

/-- The bank of a hotspot transaction, none for any other (45_bank_and_mode.md R200, R203). -/
def hotspotBank : Instr → Option (Fin bankCount)
  | .hotspot0 _ => some 0 | .hotspot1 _ => some 1 | .hotspot2 _ => some 2
  | .hotspot3 _ => some 3 | .hotspot4 _ => some 4 | .hotspot5 _ => some 5
  | .random _ | .amplitude | .rdrsv005 | .rdrsv006 _ | .dfdata _ | .dffrac _ | .rdrsv018 _ | .rdrsv020 _
  | .romrd _ | .fracint _ _ | .fracinc _ _ | .dftop _ _ | .dfbot _ _ | .dflow _ _ | .fastfetch _ | .immlda _
  | .wign057 _ | .waveform _ _ | .dfwrite _ _ | .rwrite _ _ | .rreset | .param _ _ | .wign073 _ | .note _ _
  | .wign _ _ | .tick _ _ _ _ | .dbgSnapshot | .dbgReadram _ _ | .dbgCurrentram _ _ | .dbgWriteram _ _
  | .dbgForcebank _ | .dbgUnlock | .dbgLock | .dbgSetlock _ | .dbgReport | .dbgRamsize => none

/-- The elements of the register file that a transaction may write (10_state.md R40, columns "program writes
through" and "debugger writes"). -/
def mayWrite (i : Instr) (s : State) (f : Field) : Prop :=
  match i with
  | .dftop j _ => f = .tops j
  | .dfbot j _ => f = .bottoms j
  | .dflow j _ => f = .counters j
  | .fracint j _ => f = .fractionalCounters j
  | .fracinc j _ => f = .fractionalIncrements j ∨ f = .fractionalCounters j
  | .param j _ => f = .parameter j
  | .note v _ => f = .musicFrequencies v
  | .waveform v _ => f = .musicWaveforms v
  | .rreset | .rwrite _ _ => f = .randomNumber
  | .fastfetch _ => f = .fastFetch
  | .immlda _ => f = .immediateLDA
  | .dfwrite j _ => f = .displayImage (s.faddr j)
  | .hotspot0 _ | .hotspot1 _ | .hotspot2 _ | .hotspot3 _ | .hotspot4 _ | .hotspot5 _
  | .dbgForcebank _ => f = .currentBank
  | .dbgWriteram a _ => f = .displayImage a.toNat
  | .tick fe fr mu rn =>
    (∃ j, fe.getLsbD j.val = true ∧ f = .counters j) ∨
    (∃ j, fr.getLsbD j.val = true ∧ f = .fractionalCounters j) ∨
    (∃ v, mu.getLsbD v.val = true ∧ f = .musicCounters v) ∨ (rn = true ∧ f = .randomNumber)
  | .random _ | .amplitude | .rdrsv005 | .rdrsv006 _ | .dfdata _ | .dffrac _ | .rdrsv018 _ | .rdrsv020 _
  | .romrd _ | .wign057 _ | .wign073 _ | .wign _ _ | .dbgSnapshot | .dbgReadram _ _ | .dbgCurrentram _ _
  | .dbgUnlock | .dbgLock | .dbgSetlock _ | .dbgReport | .dbgRamsize => False

/-- Every element of the register file outside `p` keeps its value; every byte of the display RAM is such an
element, `Field.displayImage a` for each address `a`. -/
def ElementsKeptBut (p : Field → Prop) (s t : State) : Prop :=
  ∀ f, ¬ p f → t.regs.get f = s.regs.get f

/-- Everything outside the register file keeps its value, but for the transaction's result: the configuration, the
lock state, the debug-port state, the fault and the words to come. -/
def OutsideKept (s t : State) : Prop :=
  t.cfg = s.cfg ∧ t.bankLocked = s.bankLocked ∧ t.bracketOpen = s.bracketOpen ∧ t.savedLock = s.savedLock ∧
  t.snapshot = s.snapshot ∧ t.snapTaken = s.snapTaken ∧ t.fault = s.fault ∧ t.pending = s.pending

/-- The frame of a transaction that writes only the elements in `p`. -/
def ChangesOnly (p : Field → Prop) (s t : State) : Prop := ElementsKeptBut p s t ∧ OutsideKept s t

/-- The debug commands that break the lock bracket in a state (60_exceptions.md R261, row `LOCK_MISMATCH`). -/
def breaksBracket (i : Instr) (s : State) : Bool :=
  match i with
  | .dbgUnlock | .dbgSetlock _ | .dbgForcebank _ => s.bracketOpen
  | .dbgLock => !s.bracketOpen
  | .random _ | .amplitude | .rdrsv005 | .rdrsv006 _ | .dfdata _ | .dffrac _ | .rdrsv018 _ | .rdrsv020 _
  | .hotspot0 _ | .hotspot1 _ | .hotspot2 _ | .hotspot3 _ | .hotspot4 _ | .hotspot5 _
  | .romrd _ | .fracint _ _ | .fracinc _ _ | .dftop _ _ | .dfbot _ _ | .dflow _ _ | .fastfetch _ | .immlda _
  | .wign057 _ | .waveform _ _ | .dfwrite _ _ | .rwrite _ _ | .rreset | .param _ _ | .wign073 _ | .note _ _
  | .wign _ _ | .tick _ _ _ _ | .dbgSnapshot | .dbgReadram _ _ | .dbgCurrentram _ _ | .dbgWriteram _ _
  | .dbgReport | .dbgRamsize => false

/-- A recorded fault tells its cause: a refused word is one that decodes to no row; a lock mismatch names a lock
command, or no word at the end of a run (60_exceptions.md R261). -/
def FaultRecord.Justified (r : FaultRecord) : Prop :=
  match r.kind, r.word with
  | .refused, some w => ∃ e, decode w = .error e
  | .refused, none => False
  | .lockMismatch, none => True
  | .lockMismatch, some w =>
    decode w = .ok .dbgUnlock ∨ decode w = .ok .dbgLock ∨ (∃ b, decode w = .ok (.dbgSetlock b)) ∨
    ∃ n, decode w = .ok (.dbgForcebank n)

/-- The invariant of the block's states: both RAM images are in canonical form inside 0..5119 (20_memory.md R52);
while a bracket is open the lock is off (47_debug_port.md R237, R238, R240); before the first snapshot the
snapshot is all zero (47_debug_port.md R232); a recorded fault tells its cause (60_exceptions.md R261). -/
structure State.Inv (s : State) : Prop where
  displayCanonical  : Memory.wf ramSize s.regs.displayImage = true
  snapshotCanonical : Memory.wf ramSize s.snapshot.displayImage = true
  bracketUnlocked   : s.bracketOpen = true → s.bankLocked = false
  snapshotZero      : s.snapTaken = false → s.snapshot = ChipRegisters.zero
  faultJustified    : ∀ r, s.fault = some r → r.Justified

/-- A run ends well: its last word has been performed, no fault, no open bracket (40_transactions.md R108). -/
def State.EndsWell (s : State) : Prop := s.pending = [] ∧ s.fault = none ∧ s.bracketOpen = false

/-- Transactions performed one after the other, without the step's list of words and without its check of `fault`: it goes
on past a recorded fault, where the block has no step (60_exceptions.md R266; log 16, DESIGN CHOICE). -/
def performAll : List Instr → State → Host.Outcome State Fault Refusal
  | [], s => .next s
  | i :: is, s =>
    match exec i s with
    | .next t    => performAll is t
    | .fault r   => .fault r
    | .refused r => .refused r

/-- A unit that a tick may advance (40_transactions.md R104). -/
inductive TickUnit
  | fetcher (i : Fin numFetchers)
  | fractional (i : Fin numFetchers)
  | voice (v : Fin numVoices)
  | generator
  deriving DecidableEq, Repr

/-- The twenty units in the order of the four lines of R104. -/
def tickOrder : List TickUnit :=
  fetcherList.map .fetcher ++ fetcherList.map .fractional ++ voiceList.map .voice ++ [.generator]

/-- One advance of a unit (40_transactions.md R104). -/
def TickUnit.advance : TickUnit → State → State
  | .fetcher i    => advanceFetcher i
  | .fractional i => advanceFractional i
  | .voice v      => advanceMusic v
  | .generator    => advanceRandom

/-- Does the transaction strobe the unit (30_encoding.md R72)? Only a tick does. -/
def strobes (u : TickUnit) (i : Instr) : Bool :=
  match i with
  | .tick fe fr mu rn =>
    match u with
    | .fetcher j    => fe.getLsbD j.val
    | .fractional j => fr.getLsbD j.val
    | .voice v      => mu.getLsbD v.val
    | .generator    => rn
  | .random _ | .amplitude | .rdrsv005 | .rdrsv006 _ | .dfdata _ | .dffrac _ | .rdrsv018 _ | .rdrsv020 _
  | .hotspot0 _ | .hotspot1 _ | .hotspot2 _ | .hotspot3 _ | .hotspot4 _ | .hotspot5 _
  | .romrd _ | .fracint _ _ | .fracinc _ _ | .dftop _ _ | .dfbot _ _ | .dflow _ _ | .fastfetch _ | .immlda _
  | .wign057 _ | .waveform _ _ | .dfwrite _ _ | .rwrite _ _ | .rreset | .param _ _ | .wign073 _ | .note _ _
  | .wign _ _ | .dbgSnapshot | .dbgReadram _ _ | .dbgCurrentram _ _ | .dbgWriteram _ _ | .dbgForcebank _
  | .dbgUnlock | .dbgLock | .dbgSetlock _ | .dbgReport | .dbgRamsize => false

/-- How often a sequence of transactions advances a unit. -/
def advances (u : TickUnit) (is : List Instr) : Nat := is.countP (strobes u)

/-- The inverse of `LFSR_STEP` (44_random.md R184 (b)); `rotl_32(v, 11) = rotr_32(v, 21)`. -/
def lfsrPrior (r : Word) : Word := if r.getLsbD 31 then rotr32 (r ^^^ lfsrTaps) 21 else rotr32 r 21

end Sys2Proof.Machine
end

