-- ==== Sys2Proof/Certificates/Slice0/Obligations.lean ====
section
/-! DEFINITION. The statements for the provers. Each docstring names the rules of spec/ it formalises; the spec's own
choices (its "decision D<n>") are rules of the spec, the model's own are named by their log entry. -/

open Sys2Proof Sys2Proof.Machine

/-! ### Encoding (30_encoding.md) -/

/-- Words written out from the spec's encodings (30_encoding.md R71 to R73, R81; 95_test_vectors.md 2.1). -/
def Obligations.ListedWordsDecode : Prop :=
  decode 0x00000000 = .ok (.random 0) ∧ decode 0x00000400 = .ok .amplitude ∧
  decode 0x00000B00 = .ok (.dfdata 3) ∧ decode 0x00001200 = .ok (.dffrac 2) ∧
  decode 0x00002700 = .ok (.rdrsv020 7) ∧ decode 0x000FF800 = .ok (.hotspot2 .read) ∧
  decode 0x400FF6AA = .ok (.hotspot0 .write) ∧ decode 0x00012300 = .ok (.romrd 0x123) ∧
  decode 0x40003280 = .ok (.fracinc 2 0x80) ∧ decode 0x40005503 = .ok (.waveform 1 0x03) ∧
  decode 0x40005700 = .ok (.wign057 0x00) ∧ decode 0x40007001 = .ok (.note 0 0x01) ∧
  decode 0x800FFF01 = .ok (.tick 0x01 0xFF 7 true) ∧ decode 0xCA7FE002 = .ok (.dbgCurrentram 5119 2) ∧
  decode 0xD000270F = .ok (.dbgForcebank 9999) ∧ decode 0x00100000 = .error .busReservedBits ∧
  decode 0xE8000000 = .error .debugReservedOp

/-- The decoder gives back every well-formed transaction from its word, with every operand at every value
(30_encoding.md R70 to R74). -/
def Obligations.DecodeOfEncodeIsIdentity : Prop :=
  ∀ i : Instr, i.wf = true → decode (encode i) = .ok i

/-- A decoded transaction is well formed and encodes to the word it came from, but for the data field of a transaction
that ignores it, which encodes as 0 (30_encoding.md R71, R80). -/
def Obligations.EncodeOfDecodeRestoresTheWord : Prop :=
  ∀ (w : Word) (i : Instr), decode w = .ok i →
    i.wf = true ∧ encode i = if i.ignoresData then w &&& 0xFFFFFF00#32 else w

/-- 30_encoding.md R77: the decoder answers the first row of the opcode table that matches; and apart from the two
catch-all rows (14 `ROMRD`, 30 `WIGN`) and the two single-address `WIGN` rows (22, 28), no two rows match one word. -/
def Obligations.DecodingIsFirstMatchOfTheTable : Prop :=
  (∀ w : Word, (decode w).toOption.map Instr.rowIndex = firstMatch w) ∧
  (∀ (w : Word) (j k : Nat) (r q : OpcodeRow), j ≠ k → opcodeTable[j]? = some r → opcodeTable[k]? = some q →
    r.hits w = true → q.hits w = true →
    (j = 14 ∨ j = 30 ∨ j = 22 ∨ j = 28) ∨ (k = 14 ∨ k = 30 ∨ k = 22 ∨ k = 28))

/-- 30_encoding.md R78: a word is refused exactly when its port is read, write or tick and `T[29:20] != 0`, or its
port is debug and `OP` is 10..15, or its port is debug and a must-be-zero field of R73 is not zero. -/
def Obligations.RefusedWordsAreExactlyTheReserved : Prop :=
  ∀ w : Word,
    (∃ e, decode w = .error e) ↔
      (w.extractLsb' 30 2 ≠ 3#2 ∧ w.extractLsb' 20 10 ≠ 0#10) ∨
      (w.extractLsb' 30 2 = 3#2 ∧ 10 ≤ (w.extractLsb' 26 4).toNat) ∨
      (w.extractLsb' 30 2 = 3#2 ∧
        (((w.extractLsb' 26 4).toNat ∈ [0, 5, 6, 8, 9] ∧ w.extractLsb' 0 26 ≠ 0#26) ∨
         ((w.extractLsb' 26 4).toNat = 3 ∧ w.extractLsb' 8 5 ≠ 0#5) ∨
         ((w.extractLsb' 26 4).toNat = 7 ∧ w.extractLsb' 1 25 ≠ 0#25)))

/-! ### The step (40_transactions.md, 60_exceptions.md) -/

/-- 40_transactions.md R100, 60_exceptions.md R265: with a word waiting, a state that holds a fault has no step; otherwise
a word that decodes is performed by its row's rule, moved past that word, and a word that decodes to no row sets
`fault <- REFUSED` and changes nothing else. The waiting words in `pending` and moving past one are the model's choice
(log 2, DESIGN CHOICE); the empty result of the refusal (log 5), the recorded word as part of the fault (log 6) and the
outcome fault for "no step" (log 7) are its readings (DEDUCED). -/
def Obligations.StepRunsTheDecodedTransaction : Prop :=
  ∀ (s : State) (w : Word) (p : List Word), s.pending = w :: p →
    (∀ r, s.fault = some r → step s = .fault r.kind.stop) ∧
    (s.fault = none →
      (∀ i, decode w = .ok i → step s = exec i { s with pending := p }) ∧
      (∀ e, decode w = .error e →
        step s = .next { s with pending := p, fault := some ⟨.refused, some w⟩, result := .nothing }))

/-- 60_exceptions.md R266: a state with a fault takes no further transaction, however many are tried, and does not end
well. That "no step" is the host's outcome fault is the model's reading (log 7, DEDUCED). -/
def Obligations.FaultedBlockIsStuck : Prop :=
  ∀ (s : State) (r : FaultRecord), s.fault = some r →
    (∀ k, core.run (k + 1) s = .fault r.kind.stop) ∧ ¬ s.EndsWell

/-- The end of a run (40_transactions.md R108, 47_debug_port.md R243): with no word left, an open bracket is the fault
`LOCK_MISMATCH`; without one there is nothing to do, and the state ends well exactly then. The model's own: that an empty
`pending` is the end of the run, and the refusal (log 3, DESIGN CHOICE); that the result is nothing (log 5, DEDUCED); that
no word is recorded (log 6, DEDUCED). -/
def Obligations.EndOfTheRun : Prop :=
  ∀ s : State, s.fault = none → s.pending = [] →
    (s.bracketOpen = true →
      step s = .next { s with fault := some ⟨.lockMismatch, none⟩, result := .nothing } ∧ ¬ s.EndsWell) ∧
    (s.bracketOpen = false → step s = .refused .endOfRun ∧ s.EndsWell)

/-- Whatever the waiting word and the state, a step without a fault answers a next state and takes exactly one word; the
next state of a refused word or a broken bracket is the one that holds the fault (20_memory.md R61, 40_transactions.md
R100, R101). The waiting words are the model's (log 2, DESIGN CHOICE), and that recording a fault is a next state is read
by inference (log 7, DEDUCED). -/
def Obligations.EveryWaitingWordIsTaken : Prop :=
  ∀ (s : State) (w : Word) (p : List Word), s.fault = none → s.pending = w :: p →
    ∃ t, step s = .next t ∧ t.pending = p

/-- A run performs every word it is given, or stops at the first fault with the words after it still waiting
(40_transactions.md R108, 60_exceptions.md R266). The waiting words are the model's (log 2, DESIGN CHOICE), and that
recording a fault is a next state is read by inference (log 7, DEDUCED). -/
def Obligations.RunPerformsEveryWordOrStopsAtAFault : Prop :=
  ∀ s : State, s.fault = none →
    ∃ k t, k ≤ s.pending.length ∧ core.run k s = .next t ∧ t.pending = s.pending.drop k ∧
      ((k = s.pending.length ∧ t.fault = none) ∨ (0 < k ∧ t.fault ≠ none))

/-- Every step keeps the invariant: canonical RAM images inside 0..5119, the lock off inside a bracket, a zero
snapshot before the first `DBG.SNAPSHOT`, and a recorded fault that tells its cause. -/
def Obligations.EveryStepKeepsTheInvariant : Prop :=
  ∀ s t : State, s.Inv → step s = .next t → t.Inv

/-- Construction meets the invariant, from every configuration whose `RAM_INIT` is in canonical form; so does
`State.reset`. -/
def Obligations.ConstructionMeetsTheInvariant : Prop :=
  (∀ cfg : Config, Memory.wf ramSize cfg.ramInit = true → (State.construct cfg).Inv) ∧ State.reset.Inv

/-- 10_state.md R41: the value every element holds after construction, for every configuration; the snapshot is all
zero. -/
def Obligations.ConstructionState : Prop :=
  ∀ cfg : Config,
    (∀ i : Fin 8, (State.construct cfg).regs.tops[i] = 0 ∧ (State.construct cfg).regs.bottoms[i] = 0 ∧
      (State.construct cfg).regs.counters[i] = 0 ∧ (State.construct cfg).regs.fractionalCounters[i] = 0 ∧
      (State.construct cfg).regs.fractionalIncrements[i] = 0 ∧ (State.construct cfg).regs.parameter[i] = 0) ∧
    (∀ v : Fin 3, (State.construct cfg).regs.musicCounters[v] = 0 ∧
      (State.construct cfg).regs.musicFrequencies[v] = 0 ∧ (State.construct cfg).regs.musicWaveforms[v] = 0) ∧
    (State.construct cfg).regs.randomNumber = 0x2B435044 ∧ (State.construct cfg).regs.currentBank = 5 ∧
    (State.construct cfg).regs.fastFetch = false ∧ (State.construct cfg).regs.immediateLDA = false ∧
    (∀ a, (State.construct cfg).displayByte a = Memory.read cfg.ramInit a) ∧
    (State.construct cfg).bankLocked = false ∧ (State.construct cfg).bracketOpen = false ∧
    (State.construct cfg).savedLock = false ∧ (∀ f, (State.construct cfg).snapshot.get f = 0) ∧
    (State.construct cfg).snapTaken = false ∧ (State.construct cfg).fault = none

/-- `LOCK_MISMATCH` is recorded by exactly the debug commands that break the bracket, with the command word, and such a
command does nothing else (60_exceptions.md R261, R264, R269); no other transaction records a fault. That the result of
a faulting command is nothing is the model's reading (log 5, DEDUCED), and so is that the word stands in the fault
(log 6, DEDUCED). -/
def Obligations.FaultsOnlyFromTheirCauses : Prop :=
  ∀ (i : Instr) (s t : State), s.fault = none → exec i s = .next t →
    (t.fault ≠ none ↔ breaksBracket i s = true) ∧
    (t.fault ≠ none →
      t = { s with fault := some ⟨.lockMismatch, some (encode i)⟩, result := .nothing })

/-- 60_exceptions.md R263: the only code a caller is given is `RAM_BOUNDS`, with the operands, from a debug RAM access
outside the RAM; the caller gets no bytes and nothing is written: no state changes. -/
def Obligations.RejectedRequestsChangeNothing : Prop :=
  ∀ (i : Instr) (s t : State) (c : ErrorCode) (m n : Nat), exec i s = .next t → t.result = .rejected c m n →
    c = .ramBounds ∧ t = { s with result := .rejected .ramBounds m n } ∧
    ((∃ start count : BitVec 13, (i = .dbgReadram start count ∨ i = .dbgCurrentram start count) ∧
        5120 < start.toNat + count.toNat ∧ m = start.toNat ∧ n = count.toNat) ∨
     (∃ (addr : BitVec 13) (value : Byte), i = .dbgWriteram addr value ∧ 5120 ≤ addr.toNat ∧ m = addr.toNat ∧ n = 1))

/-! ### Whole-machine rules -/

/-- The program (bus reads and writes, TICK) reaches neither the lock bits nor the debug-port state nor the fault
(10_state.md R34, R35; 60_exceptions.md R270). -/
def Obligations.ProgramCannotReachTheDebugPort : Prop :=
  ∀ (i : Instr) (s t : State), portOf i ≠ .debug → exec i s = .next t → OutsideKept s t

/-- 47_debug_port.md R230: a debug command changes no element of the register file except `DBG.WRITERAM` (one byte of
the display RAM) and `DBG.FORCEBANK` (`currentBank`); outside it, only the lock state, the debug-port state and the
fault. -/
def Obligations.DebugCommandsLeaveTheRegisterFile : Prop :=
  ∀ (i : Instr) (s t : State), portOf i = .debug → exec i s = .next t →
    (∀ f, t.regs.get f ≠ s.regs.get f →
      (∃ a d, i = .dbgWriteram a d ∧ f = .displayImage a.toNat) ∨ (∃ n, i = .dbgForcebank n ∧ f = .currentBank)) ∧
    t.regs.fastFetch = s.regs.fastFetch ∧ t.regs.immediateLDA = s.regs.immediateLDA ∧
    t.cfg = s.cfg ∧ t.pending = s.pending

/-- 20_memory.md R58: a bus read changes nothing but at a hotspot, where only `currentBank` may change, and every
other bus read is idempotent; a bus write changes only the elements its rule names. -/
def Obligations.SideEffectsOfBusAccesses : Prop :=
  (∀ (i : Instr) (s : State), portOf i = .busRead → hotspotBank i = none →
    ∃ r, exec i s = .next { s with result := r } ∧ exec i { s with result := r } = .next { s with result := r }) ∧
  (∀ (n : Fin 6) (rw : Access) (s : State),
    ∃ t, exec (hotspotOf n rw) s = .next t ∧ ChangesOnly (· = .currentBank) s t) ∧
  (∀ (i : Instr) (s : State), portOf i = .busWrite →
    ∃ t, exec i s = .next t ∧ ChangesOnly (mayWrite i s) s t)

/-- `currentBank` changes only by a hotspot access with the lock off or by `DBG.FORCEBANK` outside a bracket, and
takes the bank that was asked for (10_state.md R31, 45_bank_and_mode.md R200, R201). -/
def Obligations.CurrentBankChangesOnlyBySwitch : Prop :=
  ∀ (i : Instr) (s t : State), exec i s = .next t → t.regs.currentBank ≠ s.regs.currentBank →
    (hotspotBank i = some t.regs.currentBank ∧ s.bankLocked = false) ∨
    (∃ n : BitVec 26, i = .dbgForcebank n ∧ s.bracketOpen = false ∧ n.toNat = t.regs.currentBank.val)

/-- `PROG_ROM`, `RAM_INIT` and the parameters are read-only for the life of the block: no run changes them
(10_state.md R39, 20_memory.md R54). -/
def Obligations.ConfigurationNeverChanges : Prop :=
  ∀ (k : Nat) (s t : State), core.run k s = .next t → t.cfg = s.cfg

/-- The access rights of 10_state.md R40, for every transaction: an element of the register file that a transaction
changes is one it may write. -/
def Obligations.OnlyNamedElementsChange : Prop :=
  ∀ (i : Instr) (s t : State), exec i s = .next t → ElementsKeptBut (mayWrite i s) s t

/-- What the program can learn: a bus transaction or tick gives the same registers and the same result in two states
that agree on configuration, registers and `bankLocked`, whatever the snapshot, `snapTaken`, `savedLock` and
`bracketOpen` hold (10_state.md R40, 60_exceptions.md R270). -/
def Obligations.ProgramCannotObserveTheDebugPort : Prop :=
  ∀ (i : Instr) (s t s' t' : State), portOf i ≠ .debug → s.cfg = t.cfg → s.regs = t.regs →
    s.bankLocked = t.bankLocked → exec i s = .next s' → exec i t = .next t' →
    s'.regs = t'.regs ∧ s'.result = t'.result

/-- The mode flags and `parameter` influence nothing in the block (45_bank_and_mode.md R208, 10_state.md R26):
changing them changes no result and no other element of any bus transaction or tick. -/
def Obligations.ModeFlagsAndParametersAreInert : Prop :=
  ∀ (i : Instr) (s : State) (b c : Bool) (q : Vector Byte 8), portOf i ≠ .debug →
    ∃ t u, exec i s = .next t ∧
      exec i { s with regs := { s.regs with fastFetch := b, immediateLDA := c, parameter := q } } = .next u ∧
      u.result = t.result ∧
      ∀ f, f ≠ .fastFetch → f ≠ .immediateLDA → (∀ j, f ≠ .parameter j) → u.regs.get f = t.regs.get f

/-- With `FETCH_WRAP = MOD256` no bus transaction or tick reads `tops` or `bottoms` (10_state.md R21, R22): changing
them changes no result and no other element. -/
def Obligations.WindowBoundsAreInertUnderMod256 : Prop :=
  ∀ (i : Instr) (s : State) (p q : Vector Byte 8), s.cfg.fetchWrap = .mod256 → portOf i ≠ .debug →
    ∃ t u, exec i s = .next t ∧
      exec i { s with regs := { s.regs with tops := p, bottoms := q } } = .next u ∧ u.result = t.result ∧
      ∀ f, (∀ j, f ≠ .tops j) → (∀ j, f ≠ .bottoms j) → u.regs.get f = t.regs.get f

/-! ### The clock tick (40_transactions.md R104) -/

/-- 40_transactions.md R104: the tick word, its completion, and its frame: a unit that is not strobed keeps its
register, and nothing else changes; a tick without strobes changes nothing. -/
def Obligations.TickChangesOnlyStrobedUnits : Prop :=
  ∀ (fe fr : BitVec 8) (mu : BitVec 3) (rn : Bool) (s : State),
    decode (BitVec.ofNat 32 (0x80000000 + 0x80000 * rn.toNat + 0x10000 * mu.toNat + 0x100 * fr.toNat + fe.toNat)) =
      .ok (.tick fe fr mu rn) ∧
    ∃ t, exec (.tick fe fr mu rn) s = .next t ∧ t.result = .nothing ∧
      ChangesOnly (mayWrite (.tick fe fr mu rn) s) s t

/-- 41_data_fetchers.md R120: a strobed fetcher's counter moves once: modulo 256, or in `WINDOW` from `tops[i]` to
`bottoms[i]`; every other fetcher's counter stays. -/
def Obligations.TickAdvancesFetchers : Prop :=
  ∀ (fe fr : BitVec 8) (mu : BitVec 3) (rn : Bool) (s : State), ∃ t, exec (.tick fe fr mu rn) s = .next t ∧
    ∀ i : Fin 8,
      (fe.getLsbD i.val = false → t.regs.counters[i] = s.regs.counters[i]) ∧
      (fe.getLsbD i.val = true →
        (s.cfg.fetchWrap = .window → s.regs.counters[i] = s.regs.tops[i] →
          t.regs.counters[i] = s.regs.bottoms[i]) ∧
        (s.cfg.fetchWrap = .mod256 ∨ s.regs.counters[i] ≠ s.regs.tops[i] →
          t.regs.counters[i].toNat = (s.regs.counters[i].toNat + 1) % 256))

/-- 42_fractional.md R140: a strobed accumulator adds its increment to the fraction; only on a carry out of the fraction
does the integer part move, by one, wrapping as `FETCH_WRAP` says; `counters[i]` is not touched by it. -/
def Obligations.TickAdvancesAccumulators : Prop :=
  ∀ (fe fr : BitVec 8) (mu : BitVec 3) (rn : Bool) (s : State), ∃ t, exec (.tick fe fr mu rn) s = .next t ∧
    (fe = 0#8 → t.regs.counters = s.regs.counters) ∧
    ∀ i : Fin 8, ∀ sum n : Nat,
      sum = s.regs.fractionalCounters[i].toNat % 256 + s.regs.fractionalIncrements[i].toNat →
      n = s.regs.fractionalCounters[i].toNat / 256 →
      (fr.getLsbD i.val = false → t.regs.fractionalCounters[i] = s.regs.fractionalCounters[i]) ∧
      (fr.getLsbD i.val = true →
        t.regs.fractionalCounters[i].toNat % 256 = sum % 256 ∧
        (sum < 256 → t.regs.fractionalCounters[i].toNat / 256 = n) ∧
        (256 ≤ sum → s.cfg.fetchWrap = .window → n = s.regs.tops[i].toNat →
          t.regs.fractionalCounters[i].toNat / 256 = s.regs.bottoms[i].toNat) ∧
        (256 ≤ sum → s.cfg.fetchWrap = .mod256 ∨ n ≠ s.regs.tops[i].toNat →
          t.regs.fractionalCounters[i].toNat / 256 = (n + 1) % 256))

/-- 43_music_mixer.md R160 and 44_random.md R180: a strobed voice adds its frequency modulo 2^32; a strobed generator
rotates right by 11 and, when bit 10 was set, xors 0x10ADAB1E (the step is the spec's, from general knowledge, log
10). -/
def Obligations.TickAdvancesVoicesAndGenerator : Prop :=
  ∀ (fe fr : BitVec 8) (mu : BitVec 3) (rn : Bool) (s : State), ∃ t, exec (.tick fe fr mu rn) s = .next t ∧
    (∀ v : Fin 3, t.regs.musicCounters[v].toNat =
      if mu.getLsbD v.val = true
      then (s.regs.musicCounters[v].toNat + s.regs.musicFrequencies[v].toNat) % 2 ^ 32
      else s.regs.musicCounters[v].toNat) ∧
    t.regs.randomNumber =
      if rn = true
      then (s.regs.randomNumber >>> 11 ||| s.regs.randomNumber <<< 21) ^^^
        (if s.regs.randomNumber.getLsbD 10 = true then 0x10ADAB1E#32 else 0#32)
      else s.regs.randomNumber

/-- The order in which the strobed units of a tick advance does not change its result: every order of all twenty units,
so every order of the four lines and of the units inside a line, for all strobes (40_transactions.md R104,
92_eei_decisions.md D31). -/
def Obligations.TickOrderIsIrrelevant : Prop :=
  ∀ (fe fr : BitVec 8) (mu : BitVec 3) (rn : Bool) (s : State) (us : List TickUnit), us.Perm tickOrder →
    us.foldl (fun t u => if strobes u (.tick fe fr mu rn) then u.advance t else t) s = tickUnits fe fr mu rn s

/-! ### Data fetchers (41_data_fetchers.md) -/

/-- 41_data_fetchers.md R123, R124, R125: `DFLOW`, `DFTOP`, `DFBOT` write the named register of fetcher `i` and
nothing else, for every fetcher and every byte. -/
def Obligations.FetcherRegisterWrites : Prop :=
  ∀ (i : Fin 8) (d : Byte) (s : State),
    (decode (BitVec.ofNat 32 (0x40004800 + 256 * i.val + d.toNat)) = .ok (.dflow i d) ∧
      ∃ t, exec (.dflow i d) s = .next t ∧ t.result = .nothing ∧ t.regs.counters[i] = d ∧
        ChangesOnly (· = .counters i) s t) ∧
    (decode (BitVec.ofNat 32 (0x40003800 + 256 * i.val + d.toNat)) = .ok (.dftop i d) ∧
      ∃ t, exec (.dftop i d) s = .next t ∧ t.result = .nothing ∧ t.regs.tops[i] = d ∧
        ChangesOnly (· = .tops i) s t) ∧
    (decode (BitVec.ofNat 32 (0x40004000 + 256 * i.val + d.toNat)) = .ok (.dfbot i d) ∧
      ∃ t, exec (.dfbot i d) s = .next t ∧ t.result = .nothing ∧ t.regs.bottoms[i] = d ∧
        ChangesOnly (· = .bottoms i) s t)

/-- 41_data_fetchers.md R121, R122: `DFDATA i` returns the display byte at `FETCH_PAGE(i) * 256 + counters[i]`, an
address below 5120, and changes nothing; the word's data field is ignored. -/
def Obligations.DfdataReturnsTheFetchedByte : Prop :=
  ∀ (i : Fin 8) (d : Byte) (s : State),
    decode (BitVec.ofNat 32 (0x00000800 + 256 * i.val + d.toNat)) = .ok (.dfdata i) ∧
    s.faddr i = s.cfg.fetchPage[i].val * 256 + s.regs.counters[i].toNat ∧ s.faddr i < 5120 ∧
    exec (.dfdata i) s = .next { s with result := .byte (Memory.read s.regs.displayImage (s.faddr i)) }

/-- 41_data_fetchers.md R126: `DFWRITE i, d` stores `d` at the fetch address of fetcher `i` and changes nothing else,
no other byte of the display RAM and not the counter. -/
def Obligations.DfwriteStoresAtTheFetchAddress : Prop :=
  ∀ (i : Fin 8) (d : Byte) (s : State),
    decode (BitVec.ofNat 32 (0x40005800 + 256 * i.val + d.toNat)) = .ok (.dfwrite i d) ∧
    ∃ t, exec (.dfwrite i d) s = .next t ∧ t.result = .nothing ∧ t.displayByte (s.faddr i) = d ∧
      (∀ a, a ≠ s.faddr i → t.displayByte a = s.displayByte a) ∧
      ChangesOnly (· = .displayImage (s.faddr i)) s t

/-- A `DFWRITE` is seen by the next `DFDATA` of every fetcher, and by no read of another byte (20_memory.md R63,
70_reset_and_hazards.md R285). -/
def Obligations.DfdataAfterDfwrite : Prop :=
  ∀ (i j : Fin 8) (d : Byte) (s : State), ∃ t u v, exec (.dfwrite i d) s = .next t ∧ exec (.dfdata j) t = .next u ∧
    exec (.dfdata j) s = .next v ∧
    (s.faddr j = s.faddr i → u.result = .byte d) ∧ (s.faddr j ≠ s.faddr i → u.result = v.result)

/-- 41_data_fetchers.md R127 under `MOD256`: any sequence of transactions without a write to `counters[i]`, whatever
its ticks strobe and whatever stands between them, adds the number of fetcher `i`'s advances modulo 256; 256 advances
return the counter. That it completes whatever stands in it rests on the model: `performAll` goes on past a recorded
fault, where the block has no step (log 16, DESIGN CHOICE). -/
def Obligations.FetcherCountsModulo256 : Prop :=
  ∀ (is : List Instr) (i : Fin 8) (s : State), s.cfg.fetchWrap = .mod256 → (∀ d, .dflow i d ∉ is) →
    ∃ t, performAll is s = .next t ∧
      t.regs.counters[i].toNat = (s.regs.counters[i].toNat + advances (.fetcher i) is) % 256 ∧
      (advances (.fetcher i) is = 256 → t.regs.counters[i] = s.regs.counters[i])

/-- 41_data_fetchers.md R127 under `WINDOW`: from inside the window, over any sequence of transactions without a write
to the counter or its window, the counter stays inside, and is back after `tops[i] - bottoms[i] + 1` advances. That it
completes whatever stands in it rests on the model: `performAll` goes on past a recorded fault, where the block has no
step (log 16, DESIGN CHOICE). -/
def Obligations.FetcherStaysInItsWindow : Prop :=
  ∀ (is : List Instr) (i : Fin 8) (s : State), s.cfg.fetchWrap = .window →
    (∀ d, .dflow i d ∉ is ∧ .dftop i d ∉ is ∧ .dfbot i d ∉ is) →
    s.regs.bottoms[i].toNat ≤ s.regs.counters[i].toNat → s.regs.counters[i].toNat ≤ s.regs.tops[i].toNat →
    ∃ t, performAll is s = .next t ∧
      s.regs.bottoms[i].toNat ≤ t.regs.counters[i].toNat ∧ t.regs.counters[i].toNat ≤ s.regs.tops[i].toNat ∧
      (advances (.fetcher i) is = s.regs.tops[i].toNat - s.regs.bottoms[i].toNat + 1 →
        t.regs.counters[i] = s.regs.counters[i])

/-- A counter outside its window enters it within 256 advances, whatever else the transactions in between do, as long
as none writes the counter or its window (41_data_fetchers.md R120, corner cases). That every advance of the sequence
counts, whatever stands before it, rests on the model: `performAll` goes on past a recorded fault, where the block has
no step (log 16, DESIGN CHOICE). -/
def Obligations.FetcherEntersItsWindow : Prop :=
  ∀ (is : List Instr) (i : Fin 8) (s : State), s.cfg.fetchWrap = .window →
    (∀ d, .dflow i d ∉ is ∧ .dftop i d ∉ is ∧ .dfbot i d ∉ is) →
    s.regs.bottoms[i].toNat ≤ s.regs.tops[i].toNat → advances (.fetcher i) is = 256 →
    ∃ n t, n ≤ is.length ∧ performAll (is.take n) s = .next t ∧
      s.regs.bottoms[i].toNat ≤ t.regs.counters[i].toNat ∧ t.regs.counters[i].toNat ≤ s.regs.tops[i].toNat

/-! ### Fractional accumulators (42_fractional.md) -/

/-- 42_fractional.md R141, R142: `DFFRAC i` returns the display byte at `FETCH_PAGE(i) * 256` plus the integer part of
the accumulator, and changes nothing. -/
def Obligations.DffracReturnsTheByteAtTheIntegerPart : Prop :=
  ∀ (i : Fin 8) (d : Byte) (s : State),
    decode (BitVec.ofNat 32 (0x00001000 + 256 * i.val + d.toNat)) = .ok (.dffrac i) ∧
    exec (.dffrac i) s = .next { s with
      result := .byte (Memory.read s.regs.displayImage
        (s.cfg.fetchPage[i].val * 256 + s.regs.fractionalCounters[i].toNat / 256)) }

/-- 42_fractional.md R143, R144: `FRACINT i, d` sets the accumulator to `{d, 0x00}` and keeps the increment; `FRACINC
i, d` sets the increment, keeps the integer part and clears the fraction; neither changes anything else. -/
def Obligations.FractionalRegisterWrites : Prop :=
  ∀ (i : Fin 8) (d : Byte) (s : State),
    (decode (BitVec.ofNat 32 (0x40002800 + 256 * i.val + d.toNat)) = .ok (.fracint i d) ∧
      ∃ t, exec (.fracint i d) s = .next t ∧ t.result = .nothing ∧
        t.regs.fractionalCounters[i].toNat = 256 * d.toNat ∧ ChangesOnly (· = .fractionalCounters i) s t) ∧
    (decode (BitVec.ofNat 32 (0x40003000 + 256 * i.val + d.toNat)) = .ok (.fracinc i d) ∧
      ∃ t, exec (.fracinc i d) s = .next t ∧ t.result = .nothing ∧ t.regs.fractionalIncrements[i] = d ∧
        t.regs.fractionalCounters[i].toNat = 256 * (s.regs.fractionalCounters[i].toNat / 256) ∧
        ChangesOnly (fun f => f = .fractionalIncrements i ∨ f = .fractionalCounters i) s t)

/-- The wrap laws of an accumulator under `MOD256` (42_fractional.md R145), over any sequence of transactions without
a write to the accumulator: (a) its `k` advances add `k` increments modulo 65536; (b), (d) 256 advances keep the
fraction and move the integer part by exactly the increment; (c) 65536 advances return the accumulator. That it
completes whatever stands in it rests on the model: `performAll` goes on past a recorded fault, where the block has no
step (log 16, DESIGN CHOICE). -/
def Obligations.AccumulatorWrapLaws : Prop :=
  ∀ (is : List Instr) (i : Fin 8) (s : State), s.cfg.fetchWrap = .mod256 →
    (∀ d, .fracint i d ∉ is ∧ .fracinc i d ∉ is) →
    ∃ t, performAll is s = .next t ∧
      t.regs.fractionalCounters[i].toNat =
        (s.regs.fractionalCounters[i].toNat +
          advances (.fractional i) is * s.regs.fractionalIncrements[i].toNat) % 65536 ∧
      (advances (.fractional i) is = 256 →
        fractionOf t.regs.fractionalCounters[i] = fractionOf s.regs.fractionalCounters[i] ∧
        integerOf t.regs.fractionalCounters[i] =
          integerOf s.regs.fractionalCounters[i] + s.regs.fractionalIncrements[i]) ∧
      (advances (.fractional i) is = 65536 → t.regs.fractionalCounters[i] = s.regs.fractionalCounters[i])

/-! ### Music voices and the mixer (43_music_mixer.md) -/

/-- 43_music_mixer.md R163: `WAVEFORM v, d` selects table `d[3:0]` and changes nothing else. -/
def Obligations.WaveformSelectsTheTable : Prop :=
  ∀ (v : Fin 3) (d : Byte) (s : State),
    decode (BitVec.ofNat 32 (0x40005400 + 256 * v.val + d.toNat)) = .ok (.waveform v d) ∧
    ∃ t, exec (.waveform v d) s = .next t ∧ t.result = .nothing ∧
      t.regs.musicWaveforms[v].toNat = d.toNat % 16 ∧ ChangesOnly (· = .musicWaveforms v) s t

/-- 43_music_mixer.md R164: `NOTE v, d` loads the little-endian entry `d` of the table at 0x1000, four bytes inside
the display RAM, into the voice's frequency and changes nothing else. -/
def Obligations.NoteLoadsTheFrequency : Prop :=
  ∀ (v : Fin 3) (d : Byte) (s : State),
    decode (BitVec.ofNat 32 (0x40007000 + 256 * v.val + d.toNat)) = .ok (.note v d) ∧
    0x1000 + 4 * d.toNat + 3 < 5120 ∧
    ∃ t, exec (.note v d) s = .next t ∧ t.result = .nothing ∧
      t.regs.musicFrequencies[v].toNat =
        (s.displayByte (0x1000 + 4 * d.toNat)).toNat + 256 * (s.displayByte (0x1001 + 4 * d.toNat)).toNat +
        65536 * (s.displayByte (0x1002 + 4 * d.toNat)).toNat +
        16777216 * (s.displayByte (0x1003 + 4 * d.toNat)).toNat ∧
      ChangesOnly (· = .musicFrequencies v) s t

/-- 43_music_mixer.md R161, R162, R165, R166: the sample index is the top five bits of the counter, the sample is the
display byte at `32 * musicWaveforms[v] + sampleIndex(v)`, the amplitude is the exact sum of three samples, and
`AMPLITUDE` returns its low byte and changes nothing. -/
def Obligations.AmplitudeReturnsTheLowByteOfTheSum : Prop :=
  ∀ (d : Byte) (s : State),
    decode (BitVec.ofNat 32 (0x00000400 + d.toNat)) = .ok .amplitude ∧
    (∀ v : Fin 3, (s.sampleIndex v).toNat = s.regs.musicCounters[v].toNat / 2 ^ 27 ∧
      s.waddr v = 32 * s.regs.musicWaveforms[v].toNat + (s.sampleIndex v).toNat ∧ s.waddr v ≤ 0x1FF ∧
      s.sample v = Memory.read s.regs.displayImage (s.waddr v)) ∧
    s.amplitude = (s.sample 0).toNat + (s.sample 1).toNat + (s.sample 2).toNat ∧ s.amplitude ≤ 765 ∧
    ∃ b : Byte, exec .amplitude s = .next { s with result := .byte b } ∧ b.toNat = s.amplitude % 256

/-- Until the program sets anything, every voice is at sample index 0 of table 0 and the amplitude is three times
display byte 0 (70_reset_and_hazards.md R283). -/
def Obligations.OutputsAfterConstruction : Prop :=
  ∀ cfg : Config,
    (∀ v : Fin 3, (State.construct cfg).sampleIndex v = 0 ∧ (State.construct cfg).waddr v = 0) ∧
    (State.construct cfg).exports.amplitude = 3 * (Memory.read cfg.ramInit 0).toNat ∧
    (State.construct cfg).exports.fastFetch = false ∧ (State.construct cfg).exports.immediateLDA = false

/-! ### The generator (44_random.md) -/

/-- 44_random.md R181, R182, R183: `RANDOM k` returns byte `k` and changes nothing; `RRESET` sets the seed 0x2B435044;
`RWRITE k, d` writes byte `k` and keeps the other three; neither changes anything else. -/
def Obligations.RandomRegisterAccesses : Prop :=
  ∀ (k : Fin 4) (d : Byte) (s : State),
    (decode (BitVec.ofNat 32 (256 * k.val + d.toNat)) = .ok (.random k) ∧
      ∃ b : Byte, exec (.random k) s = .next { s with result := .byte b } ∧
        b.toNat = s.regs.randomNumber.toNat / 2 ^ (8 * k.val) % 256) ∧
    (decode (BitVec.ofNat 32 (0x40006400 + d.toNat)) = .ok .rreset ∧
      ∃ t, exec .rreset s = .next t ∧ t.result = .nothing ∧ t.regs.randomNumber = 0x2B435044#32 ∧
        ChangesOnly (· = .randomNumber) s t) ∧
    (decode (BitVec.ofNat 32 (0x40006000 + 256 * k.val + d.toNat)) = .ok (.rwrite k d) ∧
      ∃ t, exec (.rwrite k d) s = .next t ∧ t.result = .nothing ∧ laneGet t.regs.randomNumber k = d ∧
        (∀ j : Fin 4, j ≠ k → laneGet t.regs.randomNumber j = laneGet s.regs.randomNumber j) ∧
        ChangesOnly (· = .randomNumber) s t)

/-- `LFSR_STEP` is a bijection with the inverse `PRIOR` (44_random.md R184 (b)). -/
def Obligations.LfsrStepIsABijection : Prop :=
  (∀ r : Word, lfsrPrior (lfsrStep r) = r) ∧ (∀ r : Word, lfsrStep (lfsrPrior r) = r)

/-- 44_random.md R184 (a), (c): two generators with equal values that are advanced equally often, with no `RRESET` or
`RWRITE`, whatever else the two sequences of transactions do, hold equal values; and from a value that is not 0 the
generator never reaches 0. That both sequences complete whatever stands in them rests on the model: `performAll` goes on
past a recorded fault, where the block has no step (log 16, DESIGN CHOICE). -/
def Obligations.RandomSequences : Prop :=
  ∀ (is is' : List Instr) (s s' : State), s.regs.randomNumber = s'.regs.randomNumber →
    (∀ l ∈ [is, is'], .rreset ∉ l ∧ ∀ k d, .rwrite k d ∉ l) →
    advances .generator is = advances .generator is' →
    ∃ t t', performAll is s = .next t ∧ performAll is' s' = .next t' ∧
      t.regs.randomNumber = t'.regs.randomNumber ∧ (s.regs.randomNumber ≠ 0#32 → t.regs.randomNumber ≠ 0#32)

/-- The values of 44_random.md R184 (d) and (e); the step and seed are the spec's, from general knowledge (log 10). -/
def Obligations.LfsrListedValues : Prop :=
  lfsrStep 0x00000001 = 0x00200000 ∧ lfsrStep 0x00000400 = 0x90ADAB1E ∧ lfsrStep 0xFFFFFFFF = 0xEF5254E1 ∧
  lfsrStep 0x80000000 = 0x00100000 ∧ lfsrStep 0x2B435044 = 0x0885686A ∧ lfsrStep 0x0885686A = 0x0D4110AD ∧
  lfsrStep 0x0D4110AD = 0x15A1A822 ∧ lfsrStep 0x15A1A822 = 0x0442B435 ∧ lfsrStep 0x0442B435 = 0x960D2348 ∧
  lfsrStep 0x960D2348 = 0x6912C1A4 ∧ lfsrStep 0x6912C1A4 = 0x348D2258 ∧ lfsrStep 0x348D2258 = 0x4B0691A4

/-! ### Banks, mode flags, parameters, reserved addresses (45_bank_and_mode.md) -/

/-- 45_bank_and_mode.md R201: `switchBank(n)` changes nothing while the lock is set, changes nothing for a bank that
does not exist, and otherwise selects the bank. -/
def Obligations.SwitchBankChecksLockThenRange : Prop :=
  ∀ (n : Nat) (s : State),
    (s.bankLocked = true → switchBank n s = (.locked, s)) ∧
    (s.bankLocked = false → 6 ≤ n → switchBank n s = (.invalidBank, s)) ∧
    (s.bankLocked = false → n < 6 → ∃ t, switchBank n s = (.ok, t) ∧ t.regs.currentBank.val = n ∧
      ChangesOnly (· = .currentBank) s t ∧ t.result = s.result)

/-- 45_bank_and_mode.md R203: a hotspot read returns the ROM byte of the bank selected before the access, a hotspot
write returns nothing and ignores its data; both select bank `n` unless the lock is set, and change nothing else. -/
def Obligations.HotspotSwitchesTheBank : Prop :=
  ∀ (n : Fin 6) (d : Byte) (s : State),
    decode (BitVec.ofNat 32 (0x000FF600 + 256 * n.val + d.toNat)) = .ok (hotspotOf n .read) ∧
    decode (BitVec.ofNat 32 (0x400FF600 + 256 * n.val + d.toNat)) = .ok (hotspotOf n .write) ∧
    ∀ rw, ∃ t, exec (hotspotOf n rw) s = .next t ∧
      (rw = .read → t.result =
        .byte (Memory.read s.cfg.progRom (s.regs.currentBank.val * 4096 + (0xFF6 + n.val)))) ∧
      (rw = .write → t.result = .nothing) ∧
      (s.bankLocked = true → t.regs.currentBank = s.regs.currentBank) ∧
      (s.bankLocked = false → t.regs.currentBank = n) ∧ ChangesOnly (· = .currentBank) s t

/-- 45_bank_and_mode.md R202: a read at an address no earlier row matches returns the ROM byte of the selected bank
and changes nothing. -/
def Obligations.RomrdReturnsTheRomByte : Prop :=
  ∀ (a : BusAddr) (d : Byte) (s : State),
    (0x028 ≤ a.toNat ∧ a.toNat ≤ 0xFF5) ∨ (0xFFC ≤ a.toNat ∧ a.toNat ≤ 0xFFF) →
    decode (BitVec.ofNat 32 (256 * a.toNat + d.toNat)) = .ok (.romrd a) ∧
    exec (.romrd a) s = .next { s with
      result := .byte (Memory.read s.cfg.progRom (s.regs.currentBank.val * 4096 + a.toNat)) }

/-- 45_bank_and_mode.md R205: every reserved read register returns 0x00 and changes nothing. -/
def Obligations.ReservedReadsReturnZero : Prop :=
  ∀ (x : Fin 2) (y : Fin 8) (d : Byte) (s : State),
    (decode (BitVec.ofNat 32 (0x00000500 + d.toNat)) = .ok .rdrsv005 ∧
      exec .rdrsv005 s = .next { s with result := .byte 0x00 }) ∧
    (decode (BitVec.ofNat 32 (0x00000600 + 256 * x.val + d.toNat)) = .ok (.rdrsv006 x) ∧
      exec (.rdrsv006 x) s = .next { s with result := .byte 0x00 }) ∧
    (decode (BitVec.ofNat 32 (0x00001800 + 256 * y.val + d.toNat)) = .ok (.rdrsv018 y) ∧
      exec (.rdrsv018 y) s = .next { s with result := .byte 0x00 }) ∧
    (decode (BitVec.ofNat 32 (0x00002000 + 256 * y.val + d.toNat)) = .ok (.rdrsv020 y) ∧
      exec (.rdrsv020 y) s = .next { s with result := .byte 0x00 })

/-- 45_bank_and_mode.md R204: a write at an address no earlier write row matches changes nothing. -/
def Obligations.IgnoredWritesChangeNothing : Prop :=
  ∀ (a : BusAddr) (d : Byte) (s : State),
    (decode (BitVec.ofNat 32 (0x40005700 + d.toNat)) = .ok (.wign057 d) ∧
      exec (.wign057 d) s = .next { s with result := .nothing }) ∧
    (decode (BitVec.ofNat 32 (0x40007300 + d.toNat)) = .ok (.wign073 d) ∧
      exec (.wign073 d) s = .next { s with result := .nothing }) ∧
    (a.toNat ≤ 0x027 ∨ a.toNat = 0x052 ∨ a.toNat = 0x053 ∨ (0x065 ≤ a.toNat ∧ a.toNat ≤ 0x067) ∨
        (0x074 ≤ a.toNat ∧ a.toNat ≤ 0xFF5) ∨ 0xFFC ≤ a.toNat →
      decode (BitVec.ofNat 32 (0x40000000 + 256 * a.toNat + d.toNat)) = .ok (.wign a d) ∧
      exec (.wign a d) s = .next { s with result := .nothing })

/-- 45_bank_and_mode.md R206, R207, R209: `FASTFETCH d` and `IMMLDA d` set their flag exactly when `d` is 0, `PARAM i,
d` stores the argument; none changes anything else. -/
def Obligations.ModeFlagAndParameterWrites : Prop :=
  ∀ (i : Fin 8) (d : Byte) (s : State),
    (decode (BitVec.ofNat 32 (0x40005000 + d.toNat)) = .ok (.fastfetch d) ∧
      ∃ t, exec (.fastfetch d) s = .next t ∧ t.result = .nothing ∧ (t.regs.fastFetch = true ↔ d = 0#8) ∧
        ChangesOnly (· = .fastFetch) s t) ∧
    (decode (BitVec.ofNat 32 (0x40005100 + d.toNat)) = .ok (.immlda d) ∧
      ∃ t, exec (.immlda d) s = .next t ∧ t.result = .nothing ∧ (t.regs.immediateLDA = true ↔ d = 0#8) ∧
        ChangesOnly (· = .immediateLDA) s t) ∧
    (decode (BitVec.ofNat 32 (0x40006800 + 256 * i.val + d.toNat)) = .ok (.param i d) ∧
      ∃ t, exec (.param i d) s = .next t ∧ t.result = .nothing ∧ t.regs.parameter[i] = d ∧
        ChangesOnly (· = .parameter i) s t)

/-! ### The debug port (47_debug_port.md) -/

/-- 47_debug_port.md R231: `DBG.SNAPSHOT` copies the whole register file, replacing the previous snapshot, and sets
`snapTaken`; nothing else changes. -/
def Obligations.SnapshotCopiesTheRegisterFile : Prop :=
  ∀ s : State, decode 0xC0000000 = .ok .dbgSnapshot ∧
    exec .dbgSnapshot s = .next { s with snapshot := s.regs, snapTaken := true, result := .nothing }

/-- 47_debug_port.md R232, R233: `DBG.REPORT` returns `snapTaken` and one entry for each of the 5181 elements, in the
spec's order, with its live value and whether it differs from the snapshot; no state changes. -/
def Obligations.ReportListsEveryElement : Prop :=
  ∀ s : State, decode 0xE0000000 = .ok .dbgReport ∧
    ∃ l, exec .dbgReport s = .next { s with result := .report s.snapTaken l } ∧ l.length = 5181 ∧
      l.map ReportEntry.field =
        (List.finRange 8).map .tops ++ (List.finRange 8).map .bottoms ++ (List.finRange 8).map .counters ++
        (List.finRange 8).map .fractionalCounters ++ (List.finRange 8).map .fractionalIncrements ++
        (List.finRange 8).map .parameter ++ (List.finRange 3).map .musicCounters ++
        (List.finRange 3).map .musicFrequencies ++ (List.finRange 3).map .musicWaveforms ++
        [.randomNumber, .currentBank, .fastFetch, .immediateLDA] ++ (List.range 5120).map .displayImage ∧
      ∀ e ∈ l, e.current = s.regs.get e.field ∧
        (e.changed = true ↔ s.regs.get e.field ≠ s.snapshot.get e.field)

/-- A report right after a snapshot shows no change; after one bus write that changed exactly one element it shows
exactly that element (47_debug_port.md R245). -/
def Obligations.ReportAfterSnapshot : Prop :=
  ∀ s t : State, exec .dbgSnapshot s = .next t →
    (∃ l, exec .dbgReport t = .next { t with result := .report true l } ∧ ∀ e ∈ l, e.changed = false) ∧
    (∀ (i : Instr) (u : State) (f : Field), portOf i = .busWrite → exec i t = .next u →
      u.regs.get f ≠ t.regs.get f → (∀ g, g ≠ f → u.regs.get g = t.regs.get g) →
      ∃ l, exec .dbgReport u = .next { u with result := .report true l } ∧ (∃ e ∈ l, e.field = f) ∧
        ∀ e ∈ l, (e.changed = true ↔ e.field = f))

/-- 47_debug_port.md R234, R235, R241: `DBG.RAMSIZE` returns 5120 and changes nothing; `DBG.READRAM` and
`DBG.CURRENTRAM` return `count` bytes of the snapshot or of the live display RAM from `start`, or, when
`start + count > 5120`, are rejected with `RAM_BOUNDS(start, count)`; no state changes. -/
def Obligations.RamsizeAndRamReads : Prop :=
  ∀ (start count : BitVec 13) (s : State),
    (decode 0xE4000000 = .ok .dbgRamsize ∧ exec .dbgRamsize s = .next { s with result := .size 5120 }) ∧
    decode (BitVec.ofNat 32 (0xC4000000 + 8192 * start.toNat + count.toNat)) = .ok (.dbgReadram start count) ∧
    decode (BitVec.ofNat 32 (0xC8000000 + 8192 * start.toNat + count.toNat)) = .ok (.dbgCurrentram start count) ∧
    (start.toNat + count.toNat ≤ 5120 →
      ∃ l l', exec (.dbgReadram start count) s = .next { s with result := .bytes l } ∧
        exec (.dbgCurrentram start count) s = .next { s with result := .bytes l' } ∧
        l.length = count.toNat ∧ l'.length = count.toNat ∧
        ∀ j, j < count.toNat → l[j]? = some (Memory.read s.snapshot.displayImage (start.toNat + j)) ∧
          l'[j]? = some (Memory.read s.regs.displayImage (start.toNat + j))) ∧
    (5120 < start.toNat + count.toNat →
      exec (.dbgReadram start count) s =
        .next { s with result := .rejected .ramBounds start.toNat count.toNat } ∧
      exec (.dbgCurrentram start count) s =
        .next { s with result := .rejected .ramBounds start.toNat count.toNat })

/-- 47_debug_port.md R236: `DBG.WRITERAM addr, value` writes one byte of the live display RAM and nothing else, or,
when `addr >= 5120`, is rejected with `RAM_BOUNDS(addr, 1)` and changes nothing. -/
def Obligations.WriteramStoresOrRejects : Prop :=
  ∀ (addr : BitVec 13) (value : Byte) (s : State),
    decode (BitVec.ofNat 32 (0xCC000000 + 8192 * addr.toNat + value.toNat)) = .ok (.dbgWriteram addr value) ∧
    (addr.toNat < 5120 →
      ∃ t, exec (.dbgWriteram addr value) s = .next t ∧ t.result = .nothing ∧ t.displayByte addr.toNat = value ∧
        (∀ a, a ≠ addr.toNat → t.displayByte a = s.displayByte a) ∧
        ChangesOnly (· = .displayImage addr.toNat) s t) ∧
    (5120 ≤ addr.toNat →
      exec (.dbgWriteram addr value) s = .next { s with result := .rejected .ramBounds addr.toNat 1 })

/-- 47_debug_port.md R237, R238, R239: `DBG.SETLOCK`, `DBG.UNLOCK` and `DBG.LOCK` on the lock bits, and, in a state without
a fault (10_state.md R36 keeps the first one), `LOCK_MISMATCH`, recording the command word (60_exceptions.md R261), when
the bracket is not as the command needs it; nothing else changes. That the result of a faulting command is nothing is
the model's reading (log 5, DEDUCED), and so is that the word stands in the fault (log 6, DEDUCED). -/
def Obligations.LockCommands : Prop :=
  ∀ (b : Bool) (s : State),
    decode (BitVec.ofNat 32 (0xDC000000 + b.toNat)) = .ok (.dbgSetlock b) ∧
    decode 0xD4000000 = .ok .dbgUnlock ∧ decode 0xD8000000 = .ok .dbgLock ∧
    (s.bracketOpen = false →
      exec (.dbgSetlock b) s = .next { s with bankLocked := b, result := .nothing } ∧
      exec .dbgUnlock s = .next
        { s with savedLock := s.bankLocked, bankLocked := false, bracketOpen := true, result := .nothing } ∧
      (s.fault = none → exec .dbgLock s = .next
        { s with fault := some ⟨.lockMismatch, some 0xD8000000#32⟩, result := .nothing })) ∧
    (s.bracketOpen = true →
      (s.fault = none → exec (.dbgSetlock b) s = .next { s with
        fault := some ⟨.lockMismatch, some (BitVec.ofNat 32 (0xDC000000 + b.toNat))⟩, result := .nothing }) ∧
      (s.fault = none → exec .dbgUnlock s = .next
        { s with fault := some ⟨.lockMismatch, some 0xD4000000#32⟩, result := .nothing }) ∧
      exec .dbgLock s = .next { s with bankLocked := s.savedLock, bracketOpen := false, result := .nothing })

/-- 47_debug_port.md R240: `DBG.FORCEBANK n` selects bank `n` whatever the lock holds, does nothing silently when the bank
does not exist, keeps the lock bits, and inside an open bracket, in a state without a fault (10_state.md R36 keeps the
first one), is `LOCK_MISMATCH`, recording the command word (60_exceptions.md R261). That the result of the faulting
command is nothing is the model's reading (log 5, DEDUCED), and so is that the word stands in the fault (log 6,
DEDUCED). -/
def Obligations.ForcebankSwitchesUnderTheLock : Prop :=
  ∀ (n : BitVec 26) (s : State),
    decode (BitVec.ofNat 32 (0xD0000000 + n.toNat)) = .ok (.dbgForcebank n) ∧
    (s.bracketOpen = false →
      ∃ t, exec (.dbgForcebank n) s = .next t ∧ t.result = .nothing ∧
        t.regs.currentBank.val = (if n.toNat < 6 then n.toNat else s.regs.currentBank.val) ∧
        ChangesOnly (· = .currentBank) s t) ∧
    (s.bracketOpen = true → s.fault = none →
      exec (.dbgForcebank n) s = .next { s with
        fault := some ⟨.lockMismatch, some (BitVec.ofNat 32 (0xD0000000 + n.toNat))⟩, result := .nothing })
end

