-- ==== Sys2Proof/Laws/Decode.lean ====
section
/-! SUPPORT. The fields of transaction words and what the decoder answers on a word of each format: a word with zero
reserved bits is the bus or tick word of its own fields, and the decoder reads exactly those fields. -/

namespace Sys2Proof

/-! ### Fields of the formats (spec/30_encoding.md R71 to R73) -/

section Fields

variable (p : BitVec 2) (z : BitVec 10) (a : BusAddr) (d : Byte) (op : BitVec 4) (x : BitVec 26) (y : BitVec 20)

theorem bus_fields :
    (p ++ z ++ a ++ d).extractLsb' 30 2 = p ∧ (p ++ z ++ a ++ d).extractLsb' 20 10 = z ∧
    (p ++ z ++ a ++ d).extractLsb' 8 12 = a ∧ (p ++ z ++ a ++ d).extractLsb' 0 8 = d := by
  refine ⟨?_, ?_, ?_, ?_⟩ <;>
  · ext i hi
    simp only [BitVec.getElem_extractLsb', BitVec.getLsbD_append]
    simp (disch := omega) only [if_neg, if_pos, BitVec.getLsbD_eq_getElem]
    congr 1
    omega

theorem wide_fields :
    (p ++ z ++ y).extractLsb' 30 2 = p ∧ (p ++ z ++ y).extractLsb' 20 10 = z ∧
    (p ++ z ++ y).extractLsb' 0 20 = y := by
  refine ⟨?_, ?_, ?_⟩ <;>
  · ext i hi
    simp only [BitVec.getElem_extractLsb', BitVec.getLsbD_append]
    simp (disch := omega) only [if_neg, if_pos, BitVec.getLsbD_eq_getElem]
    congr 1
    omega

theorem debug_fields :
    (p ++ op ++ x).extractLsb' 30 2 = p ∧ (p ++ op ++ x).extractLsb' 26 4 = op ∧
    (p ++ op ++ x).extractLsb' 0 26 = x := by
  refine ⟨?_, ?_, ?_⟩ <;>
  · ext i hi
    simp only [BitVec.getElem_extractLsb', BitVec.getLsbD_append]
    simp (disch := omega) only [if_neg, if_pos, BitVec.getLsbD_eq_getElem]
    congr 1
    omega

/-- Every word is the bus format of its own fields. -/
theorem bus_split (w : Word) :
    w = w.extractLsb' 30 2 ++ w.extractLsb' 20 10 ++ w.extractLsb' 8 12 ++ w.extractLsb' 0 8 := by
  ext i hi
  simp only [← BitVec.getLsbD_eq_getElem, BitVec.getLsbD_append, BitVec.getLsbD_extractLsb']
  split_ifs <;> rw [decide_eq_true (by omega), Bool.true_and] <;> congr 1 <;> omega

/-- Every word is the tick format of its own fields. -/
theorem wide_split (w : Word) : w = w.extractLsb' 30 2 ++ w.extractLsb' 20 10 ++ w.extractLsb' 0 20 := by
  ext i hi
  simp only [← BitVec.getLsbD_eq_getElem, BitVec.getLsbD_append, BitVec.getLsbD_extractLsb']
  split_ifs <;> rw [decide_eq_true (by omega), Bool.true_and] <;> congr 1 <;> omega

/-- Every word is the debug format of its own fields. -/
theorem debug_split (w : Word) : w = w.extractLsb' 30 2 ++ w.extractLsb' 26 4 ++ w.extractLsb' 0 26 := by
  ext i hi
  simp only [← BitVec.getLsbD_eq_getElem, BitVec.getLsbD_append, BitVec.getLsbD_extractLsb']
  split_ifs <;> rw [decide_eq_true (by omega), Bool.true_and] <;> congr 1 <;> omega

end Fields

/-! ### The decoder on each format -/

/-- A bus read is decoded from its address alone; its data field is ignored (spec/30_encoding.md R71). -/
theorem decode_busRead (a : BusAddr) (d : Byte) : decode (busWord 0b00#2 a d) = .ok (decodeRead a) := by
  obtain ⟨h₁, h₂, h₃, -⟩ := bus_fields 0b00#2 0#10 a d
  simp only [decode, busWord, h₁, h₂, h₃]
  rfl

theorem decode_busWrite (a : BusAddr) (d : Byte) : decode (busWord 0b01#2 a d) = .ok (decodeWrite a d) := by
  obtain ⟨h₁, h₂, h₃, h₄⟩ := bus_fields 0b01#2 0#10 a d
  simp only [decode, busWord, h₁, h₂, h₃, h₄]
  rfl

theorem decode_tickFormat (y : BitVec 20) : decode (0b10#2 ++ 0#10 ++ y) = .ok (decodeTick y) := by
  obtain ⟨h₁, h₂, h₃⟩ := wide_fields 0b10#2 0#10 y
  simp only [decode, h₁, h₂, h₃]
  rfl

theorem decode_debugWord (op : BitVec 4) (x : BitVec 26) : decode (debugWord op x) = decodeDebug op x := by
  obtain ⟨h₁, h₂, h₃⟩ := debug_fields 0b11#2 op x
  simp only [decode, debugWord, h₁, h₂, h₃]
  rfl

/-! ### The catch-all rows -/

/-- A read at an address no earlier row takes is `ROMRD` (spec/30_encoding.md R75). -/
theorem decodeRead_romrd (a : BusAddr) (h : readMapped a = false) : decodeRead a = .romrd a := by
  replace h := of_decide_eq_false h
  unfold decodeRead
  generalize a.toNat = n at h
  simp (disch := omega) only [if_neg]

/-- A write at an address no earlier row takes is the catch-all `WIGN` (spec/30_encoding.md R76). -/
theorem decodeWrite_wign (a : BusAddr) (d : Byte) (h : writeMapped a = false) : decodeWrite a d = .wign a d := by
  replace h := of_decide_eq_false h
  unfold decodeWrite
  generalize a.toNat = n at h
  dsimp only
  rw [if_neg (show ¬(0xFF6 ≤ n ∧ n ≤ 0xFFB) by omega)]
  by_cases hn : n ≤ 0x027
  · rw [if_pos hn]
  · by_cases hm : n ≤ 0x053
    · simp (disch := omega) only [if_neg, if_pos]
    · by_cases hp : n ≤ 0x067 <;> simp (disch := omega) only [if_neg, if_pos]

/-! ### Words as numbers -/

theorem toNat_concat {m n : Nat} (x : BitVec m) (y : BitVec n) : (x ++ y).toNat = x.toNat * 2 ^ n + y.toNat := by
  rw [BitVec.toNat_append, ← Nat.shiftLeft_add_eq_or_of_lt y.isLt, Nat.shiftLeft_eq]

theorem busWord_toNat (p : BitVec 2) (a : BusAddr) (d : Byte) :
    (busWord p a d).toNat = p.toNat * 1073741824 + a.toNat * 256 + d.toNat := by
  have h₁ := toNat_concat (p ++ 0#10 ++ a) d
  have h₂ := toNat_concat (p ++ 0#10) a
  have h₃ := toNat_concat p 0#10
  simp only [BitVec.toNat_ofNat] at h₃
  rw [show (busWord p a d).toNat = (p ++ 0#10 ++ a ++ d).toNat from rfl, h₁, h₂, h₃]
  omega

/-- The bus word of a number. -/
theorem ofNat_busWord (p : BitVec 2) (a : BusAddr) (d : Byte) (n : Nat)
    (h : n = p.toNat * 1073741824 + a.toNat * 256 + d.toNat) : BitVec.ofNat 32 n = busWord p a d := by
  rw [h, ← busWord_toNat]
  simp

/-- A read word by its number, address and ignored data byte. -/
theorem decode_readNumber (a : BusAddr) (d : Byte) (n : Nat) (h : n = a.toNat * 256 + d.toNat) :
    decode (BitVec.ofNat 32 n) = .ok (decodeRead a) := by
  rw [ofNat_busWord 0#2 a d n (by simpa using h)]
  exact decode_busRead a d

/-- A write word by its number, address and data byte. -/
theorem decode_writeNumber (a : BusAddr) (d : Byte) (n : Nat) (h : n = 1073741824 + a.toNat * 256 + d.toNat) :
    decode (BitVec.ofNat 32 n) = .ok (decodeWrite a d) := by
  rw [ofNat_busWord 1#2 a d n (by simpa using h)]
  exact decode_busWrite a d

theorem debugWord_toNat (op : BitVec 4) (x : BitVec 26) :
    (debugWord op x).toNat = 3221225472 + op.toNat * 67108864 + x.toNat := by
  have h₁ := toNat_concat (0b11#2 ++ op) x
  have h₂ := toNat_concat 0b11#2 op
  simp only [BitVec.toNat_ofNat] at h₂
  rw [show (debugWord op x).toNat = (0b11#2 ++ op ++ x).toNat from rfl, h₁, h₂]
  omega

/-- The debug word of a number. -/
theorem ofNat_debugWord (op : BitVec 4) (x : BitVec 26) (n : Nat)
    (h : n = 3221225472 + op.toNat * 67108864 + x.toNat) : BitVec.ofNat 32 n = debugWord op x := by
  rw [h, ← debugWord_toNat]
  simp

/-! ### Addresses of registers -/

theorem regAddr_toNat {n : Nat} (base : Nat) (x : Fin n) (h : base + n ≤ 4096) :
    (regAddr base x).toNat = base + x.val := by
  have := x.isLt
  simp only [regAddr, BitVec.toNat_ofNat]
  exact Nat.mod_eq_of_lt (by omega)

theorem regAddr_eq {n : Nat} (base : Nat) (x : Fin n) (a : BusAddr) (h : base + x.val = a.toNat) :
    regAddr base x = a := by
  apply BitVec.eq_of_toNat_eq
  simp only [regAddr, BitVec.toNat_ofNat, h]
  exact Nat.mod_eq_of_lt a.isLt

/-- The fetcher, lane and voice fields of an address inside their blocks (spec/30_encoding.md R74). -/
theorem regAddr_fetcherOf (base : Nat) (a : BusAddr) (hb : base % 8 = 0) (h₁ : base ≤ a.toNat)
    (h₂ : a.toNat ≤ base + 7) : regAddr base (fetcherOf a) = a :=
  regAddr_eq _ _ _ (by show base + a.toNat % 8 = a.toNat; omega)

theorem regAddr_laneOf (base : Nat) (a : BusAddr) (hb : base % 4 = 0) (h₁ : base ≤ a.toNat)
    (h₂ : a.toNat ≤ base + 3) : regAddr base (laneOf a) = a :=
  regAddr_eq _ _ _ (by show base + a.toNat % 4 = a.toNat; omega)

theorem regAddr_voiceOf (base : Nat) (a : BusAddr) (hb : base % 4 = 0) (h₁ : base ≤ a.toNat)
    (h₂ : a.toNat ≤ base + 2) : regAddr base (voiceOf a) = a :=
  regAddr_eq _ _ _ (by show base + a.toNat % 4 % 3 = a.toNat; omega)

end Sys2Proof
end

