-- ==== Sys2Proof/Laws/Memory.lean ====
section
/-! SUPPORT. The laws of the memories: a read after a write, what a write leaves alone, and the canonical form, which
every memory operation keeps and in which equal memories are equal lists. -/

namespace Sys2Proof.Machine

variable (m : Memory) (a b : Nat) (v : Byte)

@[simp] theorem Memory.read_nil : Memory.read [] a = Memory.unlisted := rfl

theorem Memory.read_cons (c : Host.Cell) :
    Memory.read (c :: m) a = if c.1 = a then c.2 else Memory.read m a := rfl

theorem Memory.read_insert : Memory.read (Memory.insert m a v) b = if b = a then v else Memory.read m b := by
  induction m with
  | nil => simp [Memory.insert, Memory.read_cons, eq_comm]
  | cons c m ih =>
    obtain ⟨k, x⟩ := c
    simp only [Memory.insert]
    split
    · simp [Memory.read_cons, eq_comm]
    · split
      · subst_vars
        by_cases h : b = k <;> simp [Memory.read_cons, h, eq_comm]
      · rename_i h₁ h₂
        by_cases h : k = b
        · subst h
          simp [Memory.read_cons, Ne.symm h₂]
        · simp [Memory.read_cons, h, ih]

theorem Memory.read_erase :
    Memory.read (Memory.erase m a) b = if b = a then Memory.unlisted else Memory.read m b := by
  induction m with
  | nil => simp [Memory.erase]
  | cons c m ih =>
    obtain ⟨k, x⟩ := c
    simp only [Memory.erase]
    by_cases h : k = a
    · subst h
      simp only [if_true, ih, Memory.read_cons]
      by_cases hb : b = k
      · simp [hb]
      · simp [hb, Ne.symm hb]
    · simp only [h, if_false, Memory.read_cons, ih]
      by_cases hb : k = b
      · simp [hb, show ¬ b = a from hb ▸ h]
      · simp [hb]

/-- A read after a write: the byte written at its own address, the old byte at every other. -/
@[simp] theorem Memory.read_write :
    Memory.read (Memory.write m a v) b = if b = a then v else Memory.read m b := by
  unfold Memory.write
  split
  · rename_i h
    rw [Memory.read_erase, h]
  · exact Memory.read_insert m a b v

/-! ### The canonical form -/

theorem Memory.wfFrom_mono {hi lo lo' : Nat} (h : lo' ≤ lo) (hm : Memory.wfFrom hi lo m = true) :
    Memory.wfFrom hi lo' m = true := by
  cases m with
  | nil => rfl
  | cons c m =>
    obtain ⟨k, x⟩ := c
    simp only [Memory.wfFrom, Bool.and_eq_true, decide_eq_true_eq] at hm ⊢
    exact ⟨⟨⟨h.trans hm.1.1.1, hm.1.1.2⟩, hm.1.2⟩, hm.2⟩

theorem Memory.wfFrom_insert {hi lo : Nat} (hlo : lo ≤ a) (hhi : a < hi) (hv : v ≠ Memory.unlisted)
    (hm : Memory.wfFrom hi lo m = true) : Memory.wfFrom hi lo (Memory.insert m a v) = true := by
  induction m generalizing lo with
  | nil => simp [Memory.insert, Memory.wfFrom, hlo, hhi, hv]
  | cons c m ih =>
    obtain ⟨k, x⟩ := c
    simp only [Memory.wfFrom, Bool.and_eq_true, decide_eq_true_eq, bne_iff_ne] at hm
    obtain ⟨⟨⟨h₁, h₂⟩, h₃⟩, h₄⟩ := hm
    simp only [Memory.insert]
    split
    · simp_all [Memory.wfFrom]
    · split
      · subst_vars
        simp_all [Memory.wfFrom]
      · have := ih (lo := k + 1) (by omega) h₄
        simp_all [Memory.wfFrom]

theorem Memory.wfFrom_erase {hi lo : Nat} (hm : Memory.wfFrom hi lo m = true) :
    Memory.wfFrom hi lo (Memory.erase m a) = true := by
  induction m generalizing lo with
  | nil => rfl
  | cons c m ih =>
    obtain ⟨k, x⟩ := c
    simp only [Memory.wfFrom, Bool.and_eq_true, decide_eq_true_eq, bne_iff_ne] at hm
    obtain ⟨⟨⟨h₁, h₂⟩, h₃⟩, h₄⟩ := hm
    simp only [Memory.erase]
    split
    · exact ih (Memory.wfFrom_mono m (by omega) h₄)
    · simp [Memory.wfFrom, h₁, h₂, h₃, ih h₄]

/-- A write inside the memory keeps the canonical form. -/
theorem Memory.wf_write {size : Nat} (ha : a < size) (hm : Memory.wf size m = true) :
    Memory.wf size (Memory.write m a v) = true := by
  unfold Memory.write
  split
  · exact Memory.wfFrom_erase m a hm
  · rename_i hv
    exact Memory.wfFrom_insert m a v (Nat.zero_le a) ha hv hm

@[simp] theorem Memory.wf_nil (size : Nat) : Memory.wf size [] = true := rfl

theorem Memory.read_below {hi lo : Nat} (hm : Memory.wfFrom hi lo m = true) (h : a < lo) :
    Memory.read m a = Memory.unlisted := by
  induction m generalizing lo with
  | nil => rfl
  | cons c m ih =>
    obtain ⟨k, x⟩ := c
    simp only [Memory.wfFrom, Bool.and_eq_true, decide_eq_true_eq, bne_iff_ne] at hm
    rw [Memory.read_cons, if_neg (by simp only; omega)]
    exact ih hm.2 (by omega)

theorem Memory.wfFrom_ext {hi lo : Nat} {m m' : Memory} (hm : Memory.wfFrom hi lo m = true)
    (hm' : Memory.wfFrom hi lo m' = true) (h : ∀ a, Memory.read m a = Memory.read m' a) : m = m' := by
  induction m generalizing lo m' with
  | nil =>
    cases m' with
    | nil => rfl
    | cons c m' =>
      obtain ⟨k, x⟩ := c
      simp only [Memory.wfFrom, Bool.and_eq_true, bne_iff_ne] at hm'
      have := h k
      simp [Memory.read_cons] at this
      exact absurd this.symm hm'.1.2
  | cons c m ih =>
    obtain ⟨k, x⟩ := c
    simp only [Memory.wfFrom, Bool.and_eq_true, decide_eq_true_eq, bne_iff_ne] at hm
    cases m' with
    | nil =>
      have := h k
      simp [Memory.read_cons] at this
      exact absurd this hm.1.2
    | cons c' m' =>
      obtain ⟨k', x'⟩ := c'
      simp only [Memory.wfFrom, Bool.and_eq_true, decide_eq_true_eq, bne_iff_ne] at hm'
      have hk := h k
      have hk' := h k'
      simp only [Memory.read_cons, if_true] at hk hk'
      have hkk : k = k' := by
        rcases lt_trichotomy k k' with hlt | heq | hgt
        · rw [if_neg (by omega), Memory.read_below m' k hm'.2 (by omega)] at hk
          exact absurd hk hm.1.2
        · exact heq
        · rw [if_neg (by omega), Memory.read_below m k' hm.2 (by omega)] at hk'
          exact absurd hk'.symm hm'.1.2
      subst hkk
      simp only [if_true] at hk
      subst hk
      congr 1
      refine ih hm.2 hm'.2 (fun b => ?_)
      by_cases hb : k = b
      · rw [Memory.read_below m b hm.2 (by omega), Memory.read_below m' b hm'.2 (by omega)]
      · simpa [Memory.read_cons, hb] using h b

/-- Two canonical memories with the same bytes are the same list. -/
theorem Memory.wf_ext {size : Nat} {m m' : Memory} (hm : Memory.wf size m = true) (hm' : Memory.wf size m' = true)
    (h : ∀ a, Memory.read m a = Memory.read m' a) : m = m' := Memory.wfFrom_ext hm hm' h

end Sys2Proof.Machine
end

