-- ==== Sys2Proof/Laws/State.lean ====
section
/-! SUPPORT. One lemma per field per update of the state and of the register file, each true by rfl, so that no
later proof unfolds a record update. -/

namespace Sys2Proof.Machine

variable (r : ChipRegisters) (s : State)

/-! ### Updates of the register file -/

@[simp] theorem ChipRegisters.setTop_tops (i : Fin numFetchers) (d : Byte) : (r.setTop i d).tops = r.tops.set i d := rfl
@[simp] theorem ChipRegisters.setTop_bottoms (i : Fin numFetchers) (d : Byte) : (r.setTop i d).bottoms = r.bottoms := rfl
@[simp] theorem ChipRegisters.setTop_counters (i : Fin numFetchers) (d : Byte) : (r.setTop i d).counters = r.counters := rfl
@[simp] theorem ChipRegisters.setTop_fractionalCounters (i : Fin numFetchers) (d : Byte) : (r.setTop i d).fractionalCounters = r.fractionalCounters := rfl
@[simp] theorem ChipRegisters.setTop_fractionalIncrements (i : Fin numFetchers) (d : Byte) : (r.setTop i d).fractionalIncrements = r.fractionalIncrements := rfl
@[simp] theorem ChipRegisters.setTop_parameter (i : Fin numFetchers) (d : Byte) : (r.setTop i d).parameter = r.parameter := rfl
@[simp] theorem ChipRegisters.setTop_musicCounters (i : Fin numFetchers) (d : Byte) : (r.setTop i d).musicCounters = r.musicCounters := rfl
@[simp] theorem ChipRegisters.setTop_musicFrequencies (i : Fin numFetchers) (d : Byte) : (r.setTop i d).musicFrequencies = r.musicFrequencies := rfl
@[simp] theorem ChipRegisters.setTop_musicWaveforms (i : Fin numFetchers) (d : Byte) : (r.setTop i d).musicWaveforms = r.musicWaveforms := rfl
@[simp] theorem ChipRegisters.setTop_randomNumber (i : Fin numFetchers) (d : Byte) : (r.setTop i d).randomNumber = r.randomNumber := rfl
@[simp] theorem ChipRegisters.setTop_currentBank (i : Fin numFetchers) (d : Byte) : (r.setTop i d).currentBank = r.currentBank := rfl
@[simp] theorem ChipRegisters.setTop_fastFetch (i : Fin numFetchers) (d : Byte) : (r.setTop i d).fastFetch = r.fastFetch := rfl
@[simp] theorem ChipRegisters.setTop_immediateLDA (i : Fin numFetchers) (d : Byte) : (r.setTop i d).immediateLDA = r.immediateLDA := rfl
@[simp] theorem ChipRegisters.setTop_displayImage (i : Fin numFetchers) (d : Byte) : (r.setTop i d).displayImage = r.displayImage := rfl

@[simp] theorem ChipRegisters.setBottom_tops (i : Fin numFetchers) (d : Byte) : (r.setBottom i d).tops = r.tops := rfl
@[simp] theorem ChipRegisters.setBottom_bottoms (i : Fin numFetchers) (d : Byte) : (r.setBottom i d).bottoms = r.bottoms.set i d := rfl
@[simp] theorem ChipRegisters.setBottom_counters (i : Fin numFetchers) (d : Byte) : (r.setBottom i d).counters = r.counters := rfl
@[simp] theorem ChipRegisters.setBottom_fractionalCounters (i : Fin numFetchers) (d : Byte) : (r.setBottom i d).fractionalCounters = r.fractionalCounters := rfl
@[simp] theorem ChipRegisters.setBottom_fractionalIncrements (i : Fin numFetchers) (d : Byte) : (r.setBottom i d).fractionalIncrements = r.fractionalIncrements := rfl
@[simp] theorem ChipRegisters.setBottom_parameter (i : Fin numFetchers) (d : Byte) : (r.setBottom i d).parameter = r.parameter := rfl
@[simp] theorem ChipRegisters.setBottom_musicCounters (i : Fin numFetchers) (d : Byte) : (r.setBottom i d).musicCounters = r.musicCounters := rfl
@[simp] theorem ChipRegisters.setBottom_musicFrequencies (i : Fin numFetchers) (d : Byte) : (r.setBottom i d).musicFrequencies = r.musicFrequencies := rfl
@[simp] theorem ChipRegisters.setBottom_musicWaveforms (i : Fin numFetchers) (d : Byte) : (r.setBottom i d).musicWaveforms = r.musicWaveforms := rfl
@[simp] theorem ChipRegisters.setBottom_randomNumber (i : Fin numFetchers) (d : Byte) : (r.setBottom i d).randomNumber = r.randomNumber := rfl
@[simp] theorem ChipRegisters.setBottom_currentBank (i : Fin numFetchers) (d : Byte) : (r.setBottom i d).currentBank = r.currentBank := rfl
@[simp] theorem ChipRegisters.setBottom_fastFetch (i : Fin numFetchers) (d : Byte) : (r.setBottom i d).fastFetch = r.fastFetch := rfl
@[simp] theorem ChipRegisters.setBottom_immediateLDA (i : Fin numFetchers) (d : Byte) : (r.setBottom i d).immediateLDA = r.immediateLDA := rfl
@[simp] theorem ChipRegisters.setBottom_displayImage (i : Fin numFetchers) (d : Byte) : (r.setBottom i d).displayImage = r.displayImage := rfl

@[simp] theorem ChipRegisters.setCounter_tops (i : Fin numFetchers) (d : Byte) : (r.setCounter i d).tops = r.tops := rfl
@[simp] theorem ChipRegisters.setCounter_bottoms (i : Fin numFetchers) (d : Byte) : (r.setCounter i d).bottoms = r.bottoms := rfl
@[simp] theorem ChipRegisters.setCounter_counters (i : Fin numFetchers) (d : Byte) : (r.setCounter i d).counters = r.counters.set i d := rfl
@[simp] theorem ChipRegisters.setCounter_fractionalCounters (i : Fin numFetchers) (d : Byte) : (r.setCounter i d).fractionalCounters = r.fractionalCounters := rfl
@[simp] theorem ChipRegisters.setCounter_fractionalIncrements (i : Fin numFetchers) (d : Byte) : (r.setCounter i d).fractionalIncrements = r.fractionalIncrements := rfl
@[simp] theorem ChipRegisters.setCounter_parameter (i : Fin numFetchers) (d : Byte) : (r.setCounter i d).parameter = r.parameter := rfl
@[simp] theorem ChipRegisters.setCounter_musicCounters (i : Fin numFetchers) (d : Byte) : (r.setCounter i d).musicCounters = r.musicCounters := rfl
@[simp] theorem ChipRegisters.setCounter_musicFrequencies (i : Fin numFetchers) (d : Byte) : (r.setCounter i d).musicFrequencies = r.musicFrequencies := rfl
@[simp] theorem ChipRegisters.setCounter_musicWaveforms (i : Fin numFetchers) (d : Byte) : (r.setCounter i d).musicWaveforms = r.musicWaveforms := rfl
@[simp] theorem ChipRegisters.setCounter_randomNumber (i : Fin numFetchers) (d : Byte) : (r.setCounter i d).randomNumber = r.randomNumber := rfl
@[simp] theorem ChipRegisters.setCounter_currentBank (i : Fin numFetchers) (d : Byte) : (r.setCounter i d).currentBank = r.currentBank := rfl
@[simp] theorem ChipRegisters.setCounter_fastFetch (i : Fin numFetchers) (d : Byte) : (r.setCounter i d).fastFetch = r.fastFetch := rfl
@[simp] theorem ChipRegisters.setCounter_immediateLDA (i : Fin numFetchers) (d : Byte) : (r.setCounter i d).immediateLDA = r.immediateLDA := rfl
@[simp] theorem ChipRegisters.setCounter_displayImage (i : Fin numFetchers) (d : Byte) : (r.setCounter i d).displayImage = r.displayImage := rfl

@[simp] theorem ChipRegisters.setFracCounter_tops (i : Fin numFetchers) (x : BitVec 16) : (r.setFracCounter i x).tops = r.tops := rfl
@[simp] theorem ChipRegisters.setFracCounter_bottoms (i : Fin numFetchers) (x : BitVec 16) : (r.setFracCounter i x).bottoms = r.bottoms := rfl
@[simp] theorem ChipRegisters.setFracCounter_counters (i : Fin numFetchers) (x : BitVec 16) : (r.setFracCounter i x).counters = r.counters := rfl
@[simp] theorem ChipRegisters.setFracCounter_fractionalCounters (i : Fin numFetchers) (x : BitVec 16) : (r.setFracCounter i x).fractionalCounters = r.fractionalCounters.set i x := rfl
@[simp] theorem ChipRegisters.setFracCounter_fractionalIncrements (i : Fin numFetchers) (x : BitVec 16) : (r.setFracCounter i x).fractionalIncrements = r.fractionalIncrements := rfl
@[simp] theorem ChipRegisters.setFracCounter_parameter (i : Fin numFetchers) (x : BitVec 16) : (r.setFracCounter i x).parameter = r.parameter := rfl
@[simp] theorem ChipRegisters.setFracCounter_musicCounters (i : Fin numFetchers) (x : BitVec 16) : (r.setFracCounter i x).musicCounters = r.musicCounters := rfl
@[simp] theorem ChipRegisters.setFracCounter_musicFrequencies (i : Fin numFetchers) (x : BitVec 16) : (r.setFracCounter i x).musicFrequencies = r.musicFrequencies := rfl
@[simp] theorem ChipRegisters.setFracCounter_musicWaveforms (i : Fin numFetchers) (x : BitVec 16) : (r.setFracCounter i x).musicWaveforms = r.musicWaveforms := rfl
@[simp] theorem ChipRegisters.setFracCounter_randomNumber (i : Fin numFetchers) (x : BitVec 16) : (r.setFracCounter i x).randomNumber = r.randomNumber := rfl
@[simp] theorem ChipRegisters.setFracCounter_currentBank (i : Fin numFetchers) (x : BitVec 16) : (r.setFracCounter i x).currentBank = r.currentBank := rfl
@[simp] theorem ChipRegisters.setFracCounter_fastFetch (i : Fin numFetchers) (x : BitVec 16) : (r.setFracCounter i x).fastFetch = r.fastFetch := rfl
@[simp] theorem ChipRegisters.setFracCounter_immediateLDA (i : Fin numFetchers) (x : BitVec 16) : (r.setFracCounter i x).immediateLDA = r.immediateLDA := rfl
@[simp] theorem ChipRegisters.setFracCounter_displayImage (i : Fin numFetchers) (x : BitVec 16) : (r.setFracCounter i x).displayImage = r.displayImage := rfl

@[simp] theorem ChipRegisters.setFracIncrement_tops (i : Fin numFetchers) (d : Byte) : (r.setFracIncrement i d).tops = r.tops := rfl
@[simp] theorem ChipRegisters.setFracIncrement_bottoms (i : Fin numFetchers) (d : Byte) : (r.setFracIncrement i d).bottoms = r.bottoms := rfl
@[simp] theorem ChipRegisters.setFracIncrement_counters (i : Fin numFetchers) (d : Byte) : (r.setFracIncrement i d).counters = r.counters := rfl
@[simp] theorem ChipRegisters.setFracIncrement_fractionalCounters (i : Fin numFetchers) (d : Byte) : (r.setFracIncrement i d).fractionalCounters = r.fractionalCounters := rfl
@[simp] theorem ChipRegisters.setFracIncrement_fractionalIncrements (i : Fin numFetchers) (d : Byte) : (r.setFracIncrement i d).fractionalIncrements = r.fractionalIncrements.set i d := rfl
@[simp] theorem ChipRegisters.setFracIncrement_parameter (i : Fin numFetchers) (d : Byte) : (r.setFracIncrement i d).parameter = r.parameter := rfl
@[simp] theorem ChipRegisters.setFracIncrement_musicCounters (i : Fin numFetchers) (d : Byte) : (r.setFracIncrement i d).musicCounters = r.musicCounters := rfl
@[simp] theorem ChipRegisters.setFracIncrement_musicFrequencies (i : Fin numFetchers) (d : Byte) : (r.setFracIncrement i d).musicFrequencies = r.musicFrequencies := rfl
@[simp] theorem ChipRegisters.setFracIncrement_musicWaveforms (i : Fin numFetchers) (d : Byte) : (r.setFracIncrement i d).musicWaveforms = r.musicWaveforms := rfl
@[simp] theorem ChipRegisters.setFracIncrement_randomNumber (i : Fin numFetchers) (d : Byte) : (r.setFracIncrement i d).randomNumber = r.randomNumber := rfl
@[simp] theorem ChipRegisters.setFracIncrement_currentBank (i : Fin numFetchers) (d : Byte) : (r.setFracIncrement i d).currentBank = r.currentBank := rfl
@[simp] theorem ChipRegisters.setFracIncrement_fastFetch (i : Fin numFetchers) (d : Byte) : (r.setFracIncrement i d).fastFetch = r.fastFetch := rfl
@[simp] theorem ChipRegisters.setFracIncrement_immediateLDA (i : Fin numFetchers) (d : Byte) : (r.setFracIncrement i d).immediateLDA = r.immediateLDA := rfl
@[simp] theorem ChipRegisters.setFracIncrement_displayImage (i : Fin numFetchers) (d : Byte) : (r.setFracIncrement i d).displayImage = r.displayImage := rfl

@[simp] theorem ChipRegisters.setParameter_tops (i : Fin numFetchers) (d : Byte) : (r.setParameter i d).tops = r.tops := rfl
@[simp] theorem ChipRegisters.setParameter_bottoms (i : Fin numFetchers) (d : Byte) : (r.setParameter i d).bottoms = r.bottoms := rfl
@[simp] theorem ChipRegisters.setParameter_counters (i : Fin numFetchers) (d : Byte) : (r.setParameter i d).counters = r.counters := rfl
@[simp] theorem ChipRegisters.setParameter_fractionalCounters (i : Fin numFetchers) (d : Byte) : (r.setParameter i d).fractionalCounters = r.fractionalCounters := rfl
@[simp] theorem ChipRegisters.setParameter_fractionalIncrements (i : Fin numFetchers) (d : Byte) : (r.setParameter i d).fractionalIncrements = r.fractionalIncrements := rfl
@[simp] theorem ChipRegisters.setParameter_parameter (i : Fin numFetchers) (d : Byte) : (r.setParameter i d).parameter = r.parameter.set i d := rfl
@[simp] theorem ChipRegisters.setParameter_musicCounters (i : Fin numFetchers) (d : Byte) : (r.setParameter i d).musicCounters = r.musicCounters := rfl
@[simp] theorem ChipRegisters.setParameter_musicFrequencies (i : Fin numFetchers) (d : Byte) : (r.setParameter i d).musicFrequencies = r.musicFrequencies := rfl
@[simp] theorem ChipRegisters.setParameter_musicWaveforms (i : Fin numFetchers) (d : Byte) : (r.setParameter i d).musicWaveforms = r.musicWaveforms := rfl
@[simp] theorem ChipRegisters.setParameter_randomNumber (i : Fin numFetchers) (d : Byte) : (r.setParameter i d).randomNumber = r.randomNumber := rfl
@[simp] theorem ChipRegisters.setParameter_currentBank (i : Fin numFetchers) (d : Byte) : (r.setParameter i d).currentBank = r.currentBank := rfl
@[simp] theorem ChipRegisters.setParameter_fastFetch (i : Fin numFetchers) (d : Byte) : (r.setParameter i d).fastFetch = r.fastFetch := rfl
@[simp] theorem ChipRegisters.setParameter_immediateLDA (i : Fin numFetchers) (d : Byte) : (r.setParameter i d).immediateLDA = r.immediateLDA := rfl
@[simp] theorem ChipRegisters.setParameter_displayImage (i : Fin numFetchers) (d : Byte) : (r.setParameter i d).displayImage = r.displayImage := rfl

@[simp] theorem ChipRegisters.setMusicCounter_tops (v : Fin numVoices) (x : Word) : (r.setMusicCounter v x).tops = r.tops := rfl
@[simp] theorem ChipRegisters.setMusicCounter_bottoms (v : Fin numVoices) (x : Word) : (r.setMusicCounter v x).bottoms = r.bottoms := rfl
@[simp] theorem ChipRegisters.setMusicCounter_counters (v : Fin numVoices) (x : Word) : (r.setMusicCounter v x).counters = r.counters := rfl
@[simp] theorem ChipRegisters.setMusicCounter_fractionalCounters (v : Fin numVoices) (x : Word) : (r.setMusicCounter v x).fractionalCounters = r.fractionalCounters := rfl
@[simp] theorem ChipRegisters.setMusicCounter_fractionalIncrements (v : Fin numVoices) (x : Word) : (r.setMusicCounter v x).fractionalIncrements = r.fractionalIncrements := rfl
@[simp] theorem ChipRegisters.setMusicCounter_parameter (v : Fin numVoices) (x : Word) : (r.setMusicCounter v x).parameter = r.parameter := rfl
@[simp] theorem ChipRegisters.setMusicCounter_musicCounters (v : Fin numVoices) (x : Word) : (r.setMusicCounter v x).musicCounters = r.musicCounters.set v x := rfl
@[simp] theorem ChipRegisters.setMusicCounter_musicFrequencies (v : Fin numVoices) (x : Word) : (r.setMusicCounter v x).musicFrequencies = r.musicFrequencies := rfl
@[simp] theorem ChipRegisters.setMusicCounter_musicWaveforms (v : Fin numVoices) (x : Word) : (r.setMusicCounter v x).musicWaveforms = r.musicWaveforms := rfl
@[simp] theorem ChipRegisters.setMusicCounter_randomNumber (v : Fin numVoices) (x : Word) : (r.setMusicCounter v x).randomNumber = r.randomNumber := rfl
@[simp] theorem ChipRegisters.setMusicCounter_currentBank (v : Fin numVoices) (x : Word) : (r.setMusicCounter v x).currentBank = r.currentBank := rfl
@[simp] theorem ChipRegisters.setMusicCounter_fastFetch (v : Fin numVoices) (x : Word) : (r.setMusicCounter v x).fastFetch = r.fastFetch := rfl
@[simp] theorem ChipRegisters.setMusicCounter_immediateLDA (v : Fin numVoices) (x : Word) : (r.setMusicCounter v x).immediateLDA = r.immediateLDA := rfl
@[simp] theorem ChipRegisters.setMusicCounter_displayImage (v : Fin numVoices) (x : Word) : (r.setMusicCounter v x).displayImage = r.displayImage := rfl

@[simp] theorem ChipRegisters.setMusicFrequency_tops (v : Fin numVoices) (x : Word) : (r.setMusicFrequency v x).tops = r.tops := rfl
@[simp] theorem ChipRegisters.setMusicFrequency_bottoms (v : Fin numVoices) (x : Word) : (r.setMusicFrequency v x).bottoms = r.bottoms := rfl
@[simp] theorem ChipRegisters.setMusicFrequency_counters (v : Fin numVoices) (x : Word) : (r.setMusicFrequency v x).counters = r.counters := rfl
@[simp] theorem ChipRegisters.setMusicFrequency_fractionalCounters (v : Fin numVoices) (x : Word) : (r.setMusicFrequency v x).fractionalCounters = r.fractionalCounters := rfl
@[simp] theorem ChipRegisters.setMusicFrequency_fractionalIncrements (v : Fin numVoices) (x : Word) : (r.setMusicFrequency v x).fractionalIncrements = r.fractionalIncrements := rfl
@[simp] theorem ChipRegisters.setMusicFrequency_parameter (v : Fin numVoices) (x : Word) : (r.setMusicFrequency v x).parameter = r.parameter := rfl
@[simp] theorem ChipRegisters.setMusicFrequency_musicCounters (v : Fin numVoices) (x : Word) : (r.setMusicFrequency v x).musicCounters = r.musicCounters := rfl
@[simp] theorem ChipRegisters.setMusicFrequency_musicFrequencies (v : Fin numVoices) (x : Word) : (r.setMusicFrequency v x).musicFrequencies = r.musicFrequencies.set v x := rfl
@[simp] theorem ChipRegisters.setMusicFrequency_musicWaveforms (v : Fin numVoices) (x : Word) : (r.setMusicFrequency v x).musicWaveforms = r.musicWaveforms := rfl
@[simp] theorem ChipRegisters.setMusicFrequency_randomNumber (v : Fin numVoices) (x : Word) : (r.setMusicFrequency v x).randomNumber = r.randomNumber := rfl
@[simp] theorem ChipRegisters.setMusicFrequency_currentBank (v : Fin numVoices) (x : Word) : (r.setMusicFrequency v x).currentBank = r.currentBank := rfl
@[simp] theorem ChipRegisters.setMusicFrequency_fastFetch (v : Fin numVoices) (x : Word) : (r.setMusicFrequency v x).fastFetch = r.fastFetch := rfl
@[simp] theorem ChipRegisters.setMusicFrequency_immediateLDA (v : Fin numVoices) (x : Word) : (r.setMusicFrequency v x).immediateLDA = r.immediateLDA := rfl
@[simp] theorem ChipRegisters.setMusicFrequency_displayImage (v : Fin numVoices) (x : Word) : (r.setMusicFrequency v x).displayImage = r.displayImage := rfl

@[simp] theorem ChipRegisters.setMusicWaveform_tops (v : Fin numVoices) (x : BitVec 4) : (r.setMusicWaveform v x).tops = r.tops := rfl
@[simp] theorem ChipRegisters.setMusicWaveform_bottoms (v : Fin numVoices) (x : BitVec 4) : (r.setMusicWaveform v x).bottoms = r.bottoms := rfl
@[simp] theorem ChipRegisters.setMusicWaveform_counters (v : Fin numVoices) (x : BitVec 4) : (r.setMusicWaveform v x).counters = r.counters := rfl
@[simp] theorem ChipRegisters.setMusicWaveform_fractionalCounters (v : Fin numVoices) (x : BitVec 4) : (r.setMusicWaveform v x).fractionalCounters = r.fractionalCounters := rfl
@[simp] theorem ChipRegisters.setMusicWaveform_fractionalIncrements (v : Fin numVoices) (x : BitVec 4) : (r.setMusicWaveform v x).fractionalIncrements = r.fractionalIncrements := rfl
@[simp] theorem ChipRegisters.setMusicWaveform_parameter (v : Fin numVoices) (x : BitVec 4) : (r.setMusicWaveform v x).parameter = r.parameter := rfl
@[simp] theorem ChipRegisters.setMusicWaveform_musicCounters (v : Fin numVoices) (x : BitVec 4) : (r.setMusicWaveform v x).musicCounters = r.musicCounters := rfl
@[simp] theorem ChipRegisters.setMusicWaveform_musicFrequencies (v : Fin numVoices) (x : BitVec 4) : (r.setMusicWaveform v x).musicFrequencies = r.musicFrequencies := rfl
@[simp] theorem ChipRegisters.setMusicWaveform_musicWaveforms (v : Fin numVoices) (x : BitVec 4) : (r.setMusicWaveform v x).musicWaveforms = r.musicWaveforms.set v x := rfl
@[simp] theorem ChipRegisters.setMusicWaveform_randomNumber (v : Fin numVoices) (x : BitVec 4) : (r.setMusicWaveform v x).randomNumber = r.randomNumber := rfl
@[simp] theorem ChipRegisters.setMusicWaveform_currentBank (v : Fin numVoices) (x : BitVec 4) : (r.setMusicWaveform v x).currentBank = r.currentBank := rfl
@[simp] theorem ChipRegisters.setMusicWaveform_fastFetch (v : Fin numVoices) (x : BitVec 4) : (r.setMusicWaveform v x).fastFetch = r.fastFetch := rfl
@[simp] theorem ChipRegisters.setMusicWaveform_immediateLDA (v : Fin numVoices) (x : BitVec 4) : (r.setMusicWaveform v x).immediateLDA = r.immediateLDA := rfl
@[simp] theorem ChipRegisters.setMusicWaveform_displayImage (v : Fin numVoices) (x : BitVec 4) : (r.setMusicWaveform v x).displayImage = r.displayImage := rfl

@[simp] theorem ChipRegisters.setRandom_tops (x : Word) : (r.setRandom x).tops = r.tops := rfl
@[simp] theorem ChipRegisters.setRandom_bottoms (x : Word) : (r.setRandom x).bottoms = r.bottoms := rfl
@[simp] theorem ChipRegisters.setRandom_counters (x : Word) : (r.setRandom x).counters = r.counters := rfl
@[simp] theorem ChipRegisters.setRandom_fractionalCounters (x : Word) : (r.setRandom x).fractionalCounters = r.fractionalCounters := rfl
@[simp] theorem ChipRegisters.setRandom_fractionalIncrements (x : Word) : (r.setRandom x).fractionalIncrements = r.fractionalIncrements := rfl
@[simp] theorem ChipRegisters.setRandom_parameter (x : Word) : (r.setRandom x).parameter = r.parameter := rfl
@[simp] theorem ChipRegisters.setRandom_musicCounters (x : Word) : (r.setRandom x).musicCounters = r.musicCounters := rfl
@[simp] theorem ChipRegisters.setRandom_musicFrequencies (x : Word) : (r.setRandom x).musicFrequencies = r.musicFrequencies := rfl
@[simp] theorem ChipRegisters.setRandom_musicWaveforms (x : Word) : (r.setRandom x).musicWaveforms = r.musicWaveforms := rfl
@[simp] theorem ChipRegisters.setRandom_randomNumber (x : Word) : (r.setRandom x).randomNumber = x := rfl
@[simp] theorem ChipRegisters.setRandom_currentBank (x : Word) : (r.setRandom x).currentBank = r.currentBank := rfl
@[simp] theorem ChipRegisters.setRandom_fastFetch (x : Word) : (r.setRandom x).fastFetch = r.fastFetch := rfl
@[simp] theorem ChipRegisters.setRandom_immediateLDA (x : Word) : (r.setRandom x).immediateLDA = r.immediateLDA := rfl
@[simp] theorem ChipRegisters.setRandom_displayImage (x : Word) : (r.setRandom x).displayImage = r.displayImage := rfl

@[simp] theorem ChipRegisters.setBank_tops (n : Fin bankCount) : (r.setBank n).tops = r.tops := rfl
@[simp] theorem ChipRegisters.setBank_bottoms (n : Fin bankCount) : (r.setBank n).bottoms = r.bottoms := rfl
@[simp] theorem ChipRegisters.setBank_counters (n : Fin bankCount) : (r.setBank n).counters = r.counters := rfl
@[simp] theorem ChipRegisters.setBank_fractionalCounters (n : Fin bankCount) : (r.setBank n).fractionalCounters = r.fractionalCounters := rfl
@[simp] theorem ChipRegisters.setBank_fractionalIncrements (n : Fin bankCount) : (r.setBank n).fractionalIncrements = r.fractionalIncrements := rfl
@[simp] theorem ChipRegisters.setBank_parameter (n : Fin bankCount) : (r.setBank n).parameter = r.parameter := rfl
@[simp] theorem ChipRegisters.setBank_musicCounters (n : Fin bankCount) : (r.setBank n).musicCounters = r.musicCounters := rfl
@[simp] theorem ChipRegisters.setBank_musicFrequencies (n : Fin bankCount) : (r.setBank n).musicFrequencies = r.musicFrequencies := rfl
@[simp] theorem ChipRegisters.setBank_musicWaveforms (n : Fin bankCount) : (r.setBank n).musicWaveforms = r.musicWaveforms := rfl
@[simp] theorem ChipRegisters.setBank_randomNumber (n : Fin bankCount) : (r.setBank n).randomNumber = r.randomNumber := rfl
@[simp] theorem ChipRegisters.setBank_currentBank (n : Fin bankCount) : (r.setBank n).currentBank = n := rfl
@[simp] theorem ChipRegisters.setBank_fastFetch (n : Fin bankCount) : (r.setBank n).fastFetch = r.fastFetch := rfl
@[simp] theorem ChipRegisters.setBank_immediateLDA (n : Fin bankCount) : (r.setBank n).immediateLDA = r.immediateLDA := rfl
@[simp] theorem ChipRegisters.setBank_displayImage (n : Fin bankCount) : (r.setBank n).displayImage = r.displayImage := rfl

@[simp] theorem ChipRegisters.setFastFetch_tops (b : Bool) : (r.setFastFetch b).tops = r.tops := rfl
@[simp] theorem ChipRegisters.setFastFetch_bottoms (b : Bool) : (r.setFastFetch b).bottoms = r.bottoms := rfl
@[simp] theorem ChipRegisters.setFastFetch_counters (b : Bool) : (r.setFastFetch b).counters = r.counters := rfl
@[simp] theorem ChipRegisters.setFastFetch_fractionalCounters (b : Bool) : (r.setFastFetch b).fractionalCounters = r.fractionalCounters := rfl
@[simp] theorem ChipRegisters.setFastFetch_fractionalIncrements (b : Bool) : (r.setFastFetch b).fractionalIncrements = r.fractionalIncrements := rfl
@[simp] theorem ChipRegisters.setFastFetch_parameter (b : Bool) : (r.setFastFetch b).parameter = r.parameter := rfl
@[simp] theorem ChipRegisters.setFastFetch_musicCounters (b : Bool) : (r.setFastFetch b).musicCounters = r.musicCounters := rfl
@[simp] theorem ChipRegisters.setFastFetch_musicFrequencies (b : Bool) : (r.setFastFetch b).musicFrequencies = r.musicFrequencies := rfl
@[simp] theorem ChipRegisters.setFastFetch_musicWaveforms (b : Bool) : (r.setFastFetch b).musicWaveforms = r.musicWaveforms := rfl
@[simp] theorem ChipRegisters.setFastFetch_randomNumber (b : Bool) : (r.setFastFetch b).randomNumber = r.randomNumber := rfl
@[simp] theorem ChipRegisters.setFastFetch_currentBank (b : Bool) : (r.setFastFetch b).currentBank = r.currentBank := rfl
@[simp] theorem ChipRegisters.setFastFetch_fastFetch (b : Bool) : (r.setFastFetch b).fastFetch = b := rfl
@[simp] theorem ChipRegisters.setFastFetch_immediateLDA (b : Bool) : (r.setFastFetch b).immediateLDA = r.immediateLDA := rfl
@[simp] theorem ChipRegisters.setFastFetch_displayImage (b : Bool) : (r.setFastFetch b).displayImage = r.displayImage := rfl

@[simp] theorem ChipRegisters.setImmediateLDA_tops (b : Bool) : (r.setImmediateLDA b).tops = r.tops := rfl
@[simp] theorem ChipRegisters.setImmediateLDA_bottoms (b : Bool) : (r.setImmediateLDA b).bottoms = r.bottoms := rfl
@[simp] theorem ChipRegisters.setImmediateLDA_counters (b : Bool) : (r.setImmediateLDA b).counters = r.counters := rfl
@[simp] theorem ChipRegisters.setImmediateLDA_fractionalCounters (b : Bool) : (r.setImmediateLDA b).fractionalCounters = r.fractionalCounters := rfl
@[simp] theorem ChipRegisters.setImmediateLDA_fractionalIncrements (b : Bool) : (r.setImmediateLDA b).fractionalIncrements = r.fractionalIncrements := rfl
@[simp] theorem ChipRegisters.setImmediateLDA_parameter (b : Bool) : (r.setImmediateLDA b).parameter = r.parameter := rfl
@[simp] theorem ChipRegisters.setImmediateLDA_musicCounters (b : Bool) : (r.setImmediateLDA b).musicCounters = r.musicCounters := rfl
@[simp] theorem ChipRegisters.setImmediateLDA_musicFrequencies (b : Bool) : (r.setImmediateLDA b).musicFrequencies = r.musicFrequencies := rfl
@[simp] theorem ChipRegisters.setImmediateLDA_musicWaveforms (b : Bool) : (r.setImmediateLDA b).musicWaveforms = r.musicWaveforms := rfl
@[simp] theorem ChipRegisters.setImmediateLDA_randomNumber (b : Bool) : (r.setImmediateLDA b).randomNumber = r.randomNumber := rfl
@[simp] theorem ChipRegisters.setImmediateLDA_currentBank (b : Bool) : (r.setImmediateLDA b).currentBank = r.currentBank := rfl
@[simp] theorem ChipRegisters.setImmediateLDA_fastFetch (b : Bool) : (r.setImmediateLDA b).fastFetch = r.fastFetch := rfl
@[simp] theorem ChipRegisters.setImmediateLDA_immediateLDA (b : Bool) : (r.setImmediateLDA b).immediateLDA = b := rfl
@[simp] theorem ChipRegisters.setImmediateLDA_displayImage (b : Bool) : (r.setImmediateLDA b).displayImage = r.displayImage := rfl

@[simp] theorem ChipRegisters.setByte_tops (a : Nat) (v : Byte) : (r.setByte a v).tops = r.tops := rfl
@[simp] theorem ChipRegisters.setByte_bottoms (a : Nat) (v : Byte) : (r.setByte a v).bottoms = r.bottoms := rfl
@[simp] theorem ChipRegisters.setByte_counters (a : Nat) (v : Byte) : (r.setByte a v).counters = r.counters := rfl
@[simp] theorem ChipRegisters.setByte_fractionalCounters (a : Nat) (v : Byte) : (r.setByte a v).fractionalCounters = r.fractionalCounters := rfl
@[simp] theorem ChipRegisters.setByte_fractionalIncrements (a : Nat) (v : Byte) : (r.setByte a v).fractionalIncrements = r.fractionalIncrements := rfl
@[simp] theorem ChipRegisters.setByte_parameter (a : Nat) (v : Byte) : (r.setByte a v).parameter = r.parameter := rfl
@[simp] theorem ChipRegisters.setByte_musicCounters (a : Nat) (v : Byte) : (r.setByte a v).musicCounters = r.musicCounters := rfl
@[simp] theorem ChipRegisters.setByte_musicFrequencies (a : Nat) (v : Byte) : (r.setByte a v).musicFrequencies = r.musicFrequencies := rfl
@[simp] theorem ChipRegisters.setByte_musicWaveforms (a : Nat) (v : Byte) : (r.setByte a v).musicWaveforms = r.musicWaveforms := rfl
@[simp] theorem ChipRegisters.setByte_randomNumber (a : Nat) (v : Byte) : (r.setByte a v).randomNumber = r.randomNumber := rfl
@[simp] theorem ChipRegisters.setByte_currentBank (a : Nat) (v : Byte) : (r.setByte a v).currentBank = r.currentBank := rfl
@[simp] theorem ChipRegisters.setByte_fastFetch (a : Nat) (v : Byte) : (r.setByte a v).fastFetch = r.fastFetch := rfl
@[simp] theorem ChipRegisters.setByte_immediateLDA (a : Nat) (v : Byte) : (r.setByte a v).immediateLDA = r.immediateLDA := rfl
@[simp] theorem ChipRegisters.setByte_displayImage (a : Nat) (v : Byte) : (r.setByte a v).displayImage = Memory.write r.displayImage a v := rfl

/-! ### Updates of the state -/

@[simp] theorem State.mapRegs_cfg (f : ChipRegisters → ChipRegisters) : (s.mapRegs f).cfg = s.cfg := rfl
@[simp] theorem State.mapRegs_regs (f : ChipRegisters → ChipRegisters) : (s.mapRegs f).regs = f s.regs := rfl
@[simp] theorem State.mapRegs_bankLocked (f : ChipRegisters → ChipRegisters) : (s.mapRegs f).bankLocked = s.bankLocked := rfl
@[simp] theorem State.mapRegs_bracketOpen (f : ChipRegisters → ChipRegisters) : (s.mapRegs f).bracketOpen = s.bracketOpen := rfl
@[simp] theorem State.mapRegs_savedLock (f : ChipRegisters → ChipRegisters) : (s.mapRegs f).savedLock = s.savedLock := rfl
@[simp] theorem State.mapRegs_snapshot (f : ChipRegisters → ChipRegisters) : (s.mapRegs f).snapshot = s.snapshot := rfl
@[simp] theorem State.mapRegs_snapTaken (f : ChipRegisters → ChipRegisters) : (s.mapRegs f).snapTaken = s.snapTaken := rfl
@[simp] theorem State.mapRegs_fault (f : ChipRegisters → ChipRegisters) : (s.mapRegs f).fault = s.fault := rfl
@[simp] theorem State.mapRegs_pending (f : ChipRegisters → ChipRegisters) : (s.mapRegs f).pending = s.pending := rfl
@[simp] theorem State.mapRegs_result (f : ChipRegisters → ChipRegisters) : (s.mapRegs f).result = s.result := rfl

@[simp] theorem State.setBankLocked_cfg (b : Bool) : (s.setBankLocked b).cfg = s.cfg := rfl
@[simp] theorem State.setBankLocked_regs (b : Bool) : (s.setBankLocked b).regs = s.regs := rfl
@[simp] theorem State.setBankLocked_bankLocked (b : Bool) : (s.setBankLocked b).bankLocked = b := rfl
@[simp] theorem State.setBankLocked_bracketOpen (b : Bool) : (s.setBankLocked b).bracketOpen = s.bracketOpen := rfl
@[simp] theorem State.setBankLocked_savedLock (b : Bool) : (s.setBankLocked b).savedLock = s.savedLock := rfl
@[simp] theorem State.setBankLocked_snapshot (b : Bool) : (s.setBankLocked b).snapshot = s.snapshot := rfl
@[simp] theorem State.setBankLocked_snapTaken (b : Bool) : (s.setBankLocked b).snapTaken = s.snapTaken := rfl
@[simp] theorem State.setBankLocked_fault (b : Bool) : (s.setBankLocked b).fault = s.fault := rfl
@[simp] theorem State.setBankLocked_pending (b : Bool) : (s.setBankLocked b).pending = s.pending := rfl
@[simp] theorem State.setBankLocked_result (b : Bool) : (s.setBankLocked b).result = s.result := rfl

@[simp] theorem State.openBracket_cfg : s.openBracket.cfg = s.cfg := rfl
@[simp] theorem State.openBracket_regs : s.openBracket.regs = s.regs := rfl
@[simp] theorem State.openBracket_bankLocked : s.openBracket.bankLocked = false := rfl
@[simp] theorem State.openBracket_bracketOpen : s.openBracket.bracketOpen = true := rfl
@[simp] theorem State.openBracket_savedLock : s.openBracket.savedLock = s.bankLocked := rfl
@[simp] theorem State.openBracket_snapshot : s.openBracket.snapshot = s.snapshot := rfl
@[simp] theorem State.openBracket_snapTaken : s.openBracket.snapTaken = s.snapTaken := rfl
@[simp] theorem State.openBracket_fault : s.openBracket.fault = s.fault := rfl
@[simp] theorem State.openBracket_pending : s.openBracket.pending = s.pending := rfl
@[simp] theorem State.openBracket_result : s.openBracket.result = s.result := rfl

@[simp] theorem State.closeBracket_cfg : s.closeBracket.cfg = s.cfg := rfl
@[simp] theorem State.closeBracket_regs : s.closeBracket.regs = s.regs := rfl
@[simp] theorem State.closeBracket_bankLocked : s.closeBracket.bankLocked = s.savedLock := rfl
@[simp] theorem State.closeBracket_bracketOpen : s.closeBracket.bracketOpen = false := rfl
@[simp] theorem State.closeBracket_savedLock : s.closeBracket.savedLock = s.savedLock := rfl
@[simp] theorem State.closeBracket_snapshot : s.closeBracket.snapshot = s.snapshot := rfl
@[simp] theorem State.closeBracket_snapTaken : s.closeBracket.snapTaken = s.snapTaken := rfl
@[simp] theorem State.closeBracket_fault : s.closeBracket.fault = s.fault := rfl
@[simp] theorem State.closeBracket_pending : s.closeBracket.pending = s.pending := rfl
@[simp] theorem State.closeBracket_result : s.closeBracket.result = s.result := rfl

@[simp] theorem State.takeSnapshot_cfg : s.takeSnapshot.cfg = s.cfg := rfl
@[simp] theorem State.takeSnapshot_regs : s.takeSnapshot.regs = s.regs := rfl
@[simp] theorem State.takeSnapshot_bankLocked : s.takeSnapshot.bankLocked = s.bankLocked := rfl
@[simp] theorem State.takeSnapshot_bracketOpen : s.takeSnapshot.bracketOpen = s.bracketOpen := rfl
@[simp] theorem State.takeSnapshot_savedLock : s.takeSnapshot.savedLock = s.savedLock := rfl
@[simp] theorem State.takeSnapshot_snapshot : s.takeSnapshot.snapshot = s.regs := rfl
@[simp] theorem State.takeSnapshot_snapTaken : s.takeSnapshot.snapTaken = true := rfl
@[simp] theorem State.takeSnapshot_fault : s.takeSnapshot.fault = s.fault := rfl
@[simp] theorem State.takeSnapshot_pending : s.takeSnapshot.pending = s.pending := rfl
@[simp] theorem State.takeSnapshot_result : s.takeSnapshot.result = s.result := rfl

end Sys2Proof.Machine
end

