-- ==== Sys2Proof/Laws/Ops.lean ====
section
/-! SUPPORT. What each shared operation can do: the element-wise reading of the register file after each update, the
ends of a transaction, and the cases of the bank switch. -/

namespace Sys2Proof.Machine

variable (r : ChipRegisters) (s : State) (f : Field)

/-! ### An update writes its own element and no other -/

@[simp] theorem ChipRegisters.get_setTop (i : Fin numFetchers) (d : Byte) :
    (r.setTop i d).get f = if f = .tops i then d.toNat else r.get f := by
  cases f <;> simp [ChipRegisters.get, Vector.getElem_set, Fin.ext_iff, eq_comm, apply_ite BitVec.toNat]

@[simp] theorem ChipRegisters.get_setBottom (i : Fin numFetchers) (d : Byte) :
    (r.setBottom i d).get f = if f = .bottoms i then d.toNat else r.get f := by
  cases f <;> simp [ChipRegisters.get, Vector.getElem_set, Fin.ext_iff, eq_comm, apply_ite BitVec.toNat]

@[simp] theorem ChipRegisters.get_setCounter (i : Fin numFetchers) (d : Byte) :
    (r.setCounter i d).get f = if f = .counters i then d.toNat else r.get f := by
  cases f <;> simp [ChipRegisters.get, Vector.getElem_set, Fin.ext_iff, eq_comm, apply_ite BitVec.toNat]

@[simp] theorem ChipRegisters.get_setFracCounter (i : Fin numFetchers) (x : BitVec 16) :
    (r.setFracCounter i x).get f = if f = .fractionalCounters i then x.toNat else r.get f := by
  cases f <;> simp [ChipRegisters.get, Vector.getElem_set, Fin.ext_iff, eq_comm, apply_ite BitVec.toNat]

@[simp] theorem ChipRegisters.get_setFracIncrement (i : Fin numFetchers) (d : Byte) :
    (r.setFracIncrement i d).get f = if f = .fractionalIncrements i then d.toNat else r.get f := by
  cases f <;> simp [ChipRegisters.get, Vector.getElem_set, Fin.ext_iff, eq_comm, apply_ite BitVec.toNat]

@[simp] theorem ChipRegisters.get_setParameter (i : Fin numFetchers) (d : Byte) :
    (r.setParameter i d).get f = if f = .parameter i then d.toNat else r.get f := by
  cases f <;> simp [ChipRegisters.get, Vector.getElem_set, Fin.ext_iff, eq_comm, apply_ite BitVec.toNat]

@[simp] theorem ChipRegisters.get_setMusicCounter (v : Fin numVoices) (x : Word) :
    (r.setMusicCounter v x).get f = if f = .musicCounters v then x.toNat else r.get f := by
  cases f <;> simp [ChipRegisters.get, Vector.getElem_set, Fin.ext_iff, eq_comm, apply_ite BitVec.toNat]

@[simp] theorem ChipRegisters.get_setMusicFrequency (v : Fin numVoices) (x : Word) :
    (r.setMusicFrequency v x).get f = if f = .musicFrequencies v then x.toNat else r.get f := by
  cases f <;> simp [ChipRegisters.get, Vector.getElem_set, Fin.ext_iff, eq_comm, apply_ite BitVec.toNat]

@[simp] theorem ChipRegisters.get_setMusicWaveform (v : Fin numVoices) (x : BitVec 4) :
    (r.setMusicWaveform v x).get f = if f = .musicWaveforms v then x.toNat else r.get f := by
  cases f <;> simp [ChipRegisters.get, Vector.getElem_set, Fin.ext_iff, eq_comm, apply_ite BitVec.toNat]

@[simp] theorem ChipRegisters.get_setRandom (x : Word) :
    (r.setRandom x).get f = if f = .randomNumber then x.toNat else r.get f := by
  cases f <;> simp [ChipRegisters.get]

@[simp] theorem ChipRegisters.get_setBank (n : Fin bankCount) :
    (r.setBank n).get f = if f = .currentBank then n.val else r.get f := by
  cases f <;> simp [ChipRegisters.get]

@[simp] theorem ChipRegisters.get_setFastFetch (b : Bool) :
    (r.setFastFetch b).get f = if f = .fastFetch then b.toNat else r.get f := by
  cases f <;> simp [ChipRegisters.get]

@[simp] theorem ChipRegisters.get_setImmediateLDA (b : Bool) :
    (r.setImmediateLDA b).get f = if f = .immediateLDA then b.toNat else r.get f := by
  cases f <;> simp [ChipRegisters.get]

@[simp] theorem ChipRegisters.get_setByte (a : Nat) (v : Byte) :
    (r.setByte a v).get f = if f = .displayImage a then v.toNat else r.get f := by
  cases f <;> simp [ChipRegisters.get, apply_ite BitVec.toNat]

/-! ### Ends of a transaction -/

@[simp] theorem complete_eq (x : Result) : complete x s = .next { s with result := x } := rfl

@[simp] theorem rejectRamBounds_eq (m n : Nat) :
    rejectRamBounds m n s = .next { s with result := .rejected .ramBounds m n } := rfl

@[simp] theorem recordFault_eq (k : FaultKind) (w : Option Word) :
    recordFault k w s = .next { s with fault := some ⟨k, w⟩, result := .nothing } := rfl

@[simp] theorem lockMismatch_eq (i : Instr) :
    lockMismatch i s = .next { s with fault := some ⟨.lockMismatch, some (encode i)⟩, result := .nothing } := rfl

@[simp] theorem refuseWord_eq (w : Word) :
    refuseWord w s = .next { s with fault := some ⟨.refused, some w⟩, result := .nothing } := rfl

/-! ### The bank switch -/

/-- `switchBank` does nothing, or selects a bank that exists while the lock is off. -/
theorem switchBank_cases (n : Nat) :
    (switchBank n s).2 = s ∨
    ∃ h : n < bankCount, s.bankLocked = false ∧ (switchBank n s).2 = s.mapRegs (·.setBank ⟨n, h⟩) := by
  unfold switchBank
  split
  · exact .inl rfl
  · split
    · rename_i hl h
      exact .inr ⟨h, by simpa using hl, rfl⟩
    · exact .inl rfl

theorem switchBank_locked (n : Nat) (h : s.bankLocked = true) : switchBank n s = (.locked, s) := by
  simp [switchBank, h]

theorem switchBank_ok (n : Fin bankCount) (h : s.bankLocked = false) :
    switchBank n.val s = (.ok, s.mapRegs (·.setBank n)) := by
  simp [switchBank, h, n.isLt]

theorem switchBank_invalid (n : Nat) (hl : s.bankLocked = false) (h : bankCount ≤ n) :
    switchBank n s = (.invalidBank, s) := by
  simp [switchBank, hl, Nat.not_lt.mpr h]

/-- `switchBank` changes nothing but `currentBank`. -/
theorem switchBank_keeps (n : Nat) : ChangesOnly (· = .currentBank) s (switchBank n s).2 := by
  rcases switchBank_cases s n with h | ⟨_, _, h⟩ <;> rw [h] <;>
    simp +contextual [ChangesOnly, ElementsKeptBut, OutsideKept]

/-- A hotspot access switches the bank and answers. -/
theorem hotspotAccess_next (n : Fin bankCount) (rw : Access) :
    ∃ x, hotspotAccess n rw s = .next { (switchBank n.val s).2 with result := x } := by
  cases rw <;> exact ⟨_, rfl⟩

/-- A hotspot access changes nothing but `currentBank` (45_bank_and_mode.md R203). -/
theorem hotspotAccess_keeps {t : State} (n : Fin bankCount) (rw : Access) (h : hotspotAccess n rw s = .next t) :
    ChangesOnly (· = .currentBank) s t := by
  obtain ⟨x, hx⟩ := hotspotAccess_next s n rw
  rw [hx] at h
  cases h
  exact switchBank_keeps s n

theorem exec_hotspotOf (n : Fin bankCount) (rw : Access) : exec (hotspotOf n rw) s = hotspotAccess n rw s := by
  fin_cases n <;> rfl

/-! ### Byte lanes and parts of an accumulator -/

/-- Writing a lane writes that lane and no other (44_random.md R183). -/
theorem laneGet_laneSet (x : Word) (j k : Fin 4) (d : Byte) :
    laneGet (laneSet x k d) j = if j = k then d else laneGet x j := by
  have h : ∀ (j k : Fin 4) (i : Fin 8), (0xFF#32 <<< (8 * k.val)).getLsbD (8 * j.val + i.val) = decide (j = k) := by
    decide
  apply BitVec.eq_of_getLsbD_eq
  intro i hi
  have hm := h j k ⟨i, hi⟩
  have hj := j.isLt
  simp only [laneGet, laneSet, BitVec.getLsbD_extractLsb', BitVec.getLsbD_or, BitVec.getLsbD_and, BitVec.getLsbD_not,
    hm, BitVec.getLsbD_shiftLeft, BitVec.getLsbD_setWidth, hi, decide_true, Bool.true_and]
  rw [decide_eq_true (show 8 * j.val + i < 32 by omega)]
  by_cases hjk : j = k
  · subst hjk
    simp [show i < 32 by omega]
  · have hne : j.val ≠ k.val := fun h => hjk (Fin.ext h)
    simp only [hjk, decide_false, Bool.not_false, Bool.and_true, if_false, BitVec.getLsbD_extractLsb', hi,
      decide_true, Bool.true_and]
    by_cases hlt : 8 * j.val + i < 8 * k.val
    · simp [hlt]
    · rw [BitVec.getLsbD_of_ge d _ (by omega)]
      simp

theorem integerOf_toNat (x : BitVec 16) : (integerOf x).toNat = x.toNat / 256 := by
  have := x.isLt
  simp only [integerOf, BitVec.extractLsb'_toNat, Nat.shiftRight_eq_div_pow]
  omega

theorem fractionOf_toNat (x : BitVec 16) : (fractionOf x).toNat = x.toNat % 256 := by simp [fractionOf]

/-- `next8` in numbers (41_data_fetchers.md R120). -/
theorem next8At_toNat (i : Fin numFetchers) (c : Byte) :
    (s.next8At i c).toNat =
      if s.cfg.fetchWrap = .window ∧ c.toNat = s.regs.tops[i].toNat then s.regs.bottoms[i].toNat
      else (c.toNat + 1) % 256 := by
  simp only [State.next8At, next8, BitVec.toNat_inj]
  generalize s.regs.tops[i] = t
  cases h : s.cfg.fetchWrap
  · simp
  · by_cases hc : c = t <;> simp [hc]

/-! ### Frames and repetition -/

/-- An update of the register file that keeps every element but one is a frame. -/
theorem mapRegs_changesOnly (g : ChipRegisters → ChipRegisters) (x : Result)
    (h : ∀ f', f' ≠ f → (g s.regs).get f' = s.regs.get f') : ChangesOnly (· = f) s { s.mapRegs g with result := x } :=
  ⟨fun f' hf' => h f' hf', rfl, rfl, rfl, rfl, rfl, rfl, rfl, rfl⟩

theorem advances_cons (u : TickUnit) (i : Instr) (is : List Instr) :
    advances u (i :: is) = advances u is + (if strobes u i then 1 else 0) := List.countP_cons

/-- What holds at the start with count 0, and is kept by every transaction of the list with the count of the unit's
advances moved on, holds at the end with the count of the whole list. -/
theorem performAll_induct (u : TickUnit) (P : Nat → State → Prop) (is : List Instr) (h₀ : P 0 s)
    (hs : ∀ i ∈ is, ∀ k t, P k t → ∃ t', exec i t = .next t' ∧ P (k + if strobes u i then 1 else 0) t') :
    ∃ t, performAll is s = .next t ∧ P (advances u is) t := by
  suffices h : ∀ k t, P k t → ∃ t', performAll is t = .next t' ∧ P (k + advances u is) t' by
    simpa using h 0 s h₀
  clear h₀
  induction is with
  | nil => exact fun k t h => ⟨t, rfl, h⟩
  | cons i is ih =>
    intro k t h
    obtain ⟨t', ht, hp⟩ := hs i (by simp) k t h
    obtain ⟨v, hv, hq⟩ := ih (fun j hj => hs j (by simp [hj])) _ _ hp
    refine ⟨v, by simpa only [performAll, ht] using hv, ?_⟩
    rwa [advances_cons, Nat.add_comm (advances u is), ← Nat.add_assoc]

/-! ### Addresses stay inside the display RAM (20_memory.md R52) -/

theorem pageAddr_lt (cfg : Config) (i : Fin numFetchers) (x : Byte) : pageAddr cfg i x < ramSize := by
  have h₁ := (cfg.fetchPage[i]).isLt
  have h₂ := x.isLt
  simp only [pageAddr, ramSize, numPages] at *
  omega

theorem faddr_lt (i : Fin numFetchers) : s.faddr i < ramSize := pageAddr_lt _ _ _

end Sys2Proof.Machine
end

