-- ==== Sys2Proof/Laws/PerInstr.lean ====
section
/-! SUPPORT. Facts about every constructor of `Instr`, one lemma each. Family EncodesIntoItsRow: the word of a
transaction is matched by the transaction's own row of spec/opcode_table.json (spec/30_encoding.md R77). -/

namespace Sys2Proof

/-- A bus word and a mask that leaves the data field out. -/
theorem bus_masked (p : BitVec 2) (a : BusAddr) (d : Byte) (m q : BitVec 24) (h : (p ++ 0#10 ++ a) &&& m = q) :
    busWord p a d &&& (m ++ 0#8) = q ++ 0#8 := by
  rw [busWord, BitVec.and_append, h]
  simp

/-- A bus word and a mask that leaves the address and the data field out. -/
theorem bus_masked_port (p : BitVec 2) (a : BusAddr) (d : Byte) :
    busWord p a d &&& (0xFFF#12 ++ 0#12 ++ 0#8) = p ++ 0#10 ++ 0#12 ++ 0#8 := by
  have h : ∀ p : BitVec 2, (p ++ 0#10) &&& 0xFFF#12 = p ++ 0#10 := by decide
  rw [busWord, BitVec.and_append, BitVec.and_append, h, BitVec.and_zero, BitVec.and_zero]

namespace Laws.EncodesIntoItsRow

/-- The word of the transaction is matched by its row of the opcode table. -/
def Statement (i : Instr) : Prop := i.opcodeRow.hits (encode i) = true

theorem random (k : Fin 4) : Statement (.random k) :=
  have h : ∀ x : Fin 4, (0b00#2 ++ 0#10 ++ regAddr 0x000 x) &&& 0xFFFFFC#24 = 0x000000#24 := by decide
  beq_iff_eq.mpr (bus_masked 0b00#2 (regAddr 0x000 k) 0#8 0xFFFFFC#24 0x000000#24 (h k))

theorem amplitude : Statement (.amplitude) :=
  beq_iff_eq.mpr (bus_masked 0b00#2 0x004#12 0#8 0xFFFFFF#24 0x000004#24 (by decide))

theorem rdrsv005 : Statement (.rdrsv005) :=
  beq_iff_eq.mpr (bus_masked 0b00#2 0x005#12 0#8 0xFFFFFF#24 0x000005#24 (by decide))

theorem rdrsv006 (x : Fin 2) : Statement (.rdrsv006 x) :=
  have h : ∀ x : Fin 2, (0b00#2 ++ 0#10 ++ regAddr 0x006 x) &&& 0xFFFFFE#24 = 0x000006#24 := by decide
  beq_iff_eq.mpr (bus_masked 0b00#2 (regAddr 0x006 x) 0#8 0xFFFFFE#24 0x000006#24 (h x))

theorem dfdata (i : Fin 8) : Statement (.dfdata i) :=
  have h : ∀ x : Fin 8, (0b00#2 ++ 0#10 ++ regAddr 0x008 x) &&& 0xFFFFF8#24 = 0x000008#24 := by decide
  beq_iff_eq.mpr (bus_masked 0b00#2 (regAddr 0x008 i) 0#8 0xFFFFF8#24 0x000008#24 (h i))

theorem dffrac (i : Fin 8) : Statement (.dffrac i) :=
  have h : ∀ x : Fin 8, (0b00#2 ++ 0#10 ++ regAddr 0x010 x) &&& 0xFFFFF8#24 = 0x000010#24 := by decide
  beq_iff_eq.mpr (bus_masked 0b00#2 (regAddr 0x010 i) 0#8 0xFFFFF8#24 0x000010#24 (h i))

theorem rdrsv018 (x : Fin 8) : Statement (.rdrsv018 x) :=
  have h : ∀ x : Fin 8, (0b00#2 ++ 0#10 ++ regAddr 0x018 x) &&& 0xFFFFF8#24 = 0x000018#24 := by decide
  beq_iff_eq.mpr (bus_masked 0b00#2 (regAddr 0x018 x) 0#8 0xFFFFF8#24 0x000018#24 (h x))

theorem rdrsv020 (x : Fin 8) : Statement (.rdrsv020 x) :=
  have h : ∀ x : Fin 8, (0b00#2 ++ 0#10 ++ regAddr 0x020 x) &&& 0xFFFFF8#24 = 0x000020#24 := by decide
  beq_iff_eq.mpr (bus_masked 0b00#2 (regAddr 0x020 x) 0#8 0xFFFFF8#24 0x000020#24 (h x))

theorem hotspot0 (rw : Access) : Statement (.hotspot0 rw) := by
  cases rw
  · exact beq_iff_eq.mpr (bus_masked 0b00#2 0xFF6#12 0#8 0xBFFFFF#24 0x000FF6#24 (by decide))
  · exact beq_iff_eq.mpr (bus_masked 0b01#2 0xFF6#12 0#8 0xBFFFFF#24 0x000FF6#24 (by decide))

theorem hotspot1 (rw : Access) : Statement (.hotspot1 rw) := by
  cases rw
  · exact beq_iff_eq.mpr (bus_masked 0b00#2 0xFF7#12 0#8 0xBFFFFF#24 0x000FF7#24 (by decide))
  · exact beq_iff_eq.mpr (bus_masked 0b01#2 0xFF7#12 0#8 0xBFFFFF#24 0x000FF7#24 (by decide))

theorem hotspot2 (rw : Access) : Statement (.hotspot2 rw) := by
  cases rw
  · exact beq_iff_eq.mpr (bus_masked 0b00#2 0xFF8#12 0#8 0xBFFFFF#24 0x000FF8#24 (by decide))
  · exact beq_iff_eq.mpr (bus_masked 0b01#2 0xFF8#12 0#8 0xBFFFFF#24 0x000FF8#24 (by decide))

theorem hotspot3 (rw : Access) : Statement (.hotspot3 rw) := by
  cases rw
  · exact beq_iff_eq.mpr (bus_masked 0b00#2 0xFF9#12 0#8 0xBFFFFF#24 0x000FF9#24 (by decide))
  · exact beq_iff_eq.mpr (bus_masked 0b01#2 0xFF9#12 0#8 0xBFFFFF#24 0x000FF9#24 (by decide))

theorem hotspot4 (rw : Access) : Statement (.hotspot4 rw) := by
  cases rw
  · exact beq_iff_eq.mpr (bus_masked 0b00#2 0xFFA#12 0#8 0xBFFFFF#24 0x000FFA#24 (by decide))
  · exact beq_iff_eq.mpr (bus_masked 0b01#2 0xFFA#12 0#8 0xBFFFFF#24 0x000FFA#24 (by decide))

theorem hotspot5 (rw : Access) : Statement (.hotspot5 rw) := by
  cases rw
  · exact beq_iff_eq.mpr (bus_masked 0b00#2 0xFFB#12 0#8 0xBFFFFF#24 0x000FFB#24 (by decide))
  · exact beq_iff_eq.mpr (bus_masked 0b01#2 0xFFB#12 0#8 0xBFFFFF#24 0x000FFB#24 (by decide))

theorem romrd (a : BusAddr) : Statement (.romrd a) := beq_iff_eq.mpr (bus_masked_port 0b00#2 a 0#8)

theorem fracint (i : Fin 8) (d : Byte) : Statement (.fracint i d) :=
  have h : ∀ x : Fin 8, (0b01#2 ++ 0#10 ++ regAddr 0x028 x) &&& 0xFFFFF8#24 = 0x400028#24 := by decide
  beq_iff_eq.mpr (bus_masked 0b01#2 (regAddr 0x028 i) d 0xFFFFF8#24 0x400028#24 (h i))

theorem fracinc (i : Fin 8) (d : Byte) : Statement (.fracinc i d) :=
  have h : ∀ x : Fin 8, (0b01#2 ++ 0#10 ++ regAddr 0x030 x) &&& 0xFFFFF8#24 = 0x400030#24 := by decide
  beq_iff_eq.mpr (bus_masked 0b01#2 (regAddr 0x030 i) d 0xFFFFF8#24 0x400030#24 (h i))

theorem dftop (i : Fin 8) (d : Byte) : Statement (.dftop i d) :=
  have h : ∀ x : Fin 8, (0b01#2 ++ 0#10 ++ regAddr 0x038 x) &&& 0xFFFFF8#24 = 0x400038#24 := by decide
  beq_iff_eq.mpr (bus_masked 0b01#2 (regAddr 0x038 i) d 0xFFFFF8#24 0x400038#24 (h i))

theorem dfbot (i : Fin 8) (d : Byte) : Statement (.dfbot i d) :=
  have h : ∀ x : Fin 8, (0b01#2 ++ 0#10 ++ regAddr 0x040 x) &&& 0xFFFFF8#24 = 0x400040#24 := by decide
  beq_iff_eq.mpr (bus_masked 0b01#2 (regAddr 0x040 i) d 0xFFFFF8#24 0x400040#24 (h i))

theorem dflow (i : Fin 8) (d : Byte) : Statement (.dflow i d) :=
  have h : ∀ x : Fin 8, (0b01#2 ++ 0#10 ++ regAddr 0x048 x) &&& 0xFFFFF8#24 = 0x400048#24 := by decide
  beq_iff_eq.mpr (bus_masked 0b01#2 (regAddr 0x048 i) d 0xFFFFF8#24 0x400048#24 (h i))

theorem fastfetch (d : Byte) : Statement (.fastfetch d) :=
  beq_iff_eq.mpr (bus_masked 0b01#2 0x050#12 d 0xFFFFFF#24 0x400050#24 (by decide))

theorem immlda (d : Byte) : Statement (.immlda d) :=
  beq_iff_eq.mpr (bus_masked 0b01#2 0x051#12 d 0xFFFFFF#24 0x400051#24 (by decide))

theorem wign057 (d : Byte) : Statement (.wign057 d) :=
  beq_iff_eq.mpr (bus_masked 0b01#2 0x057#12 d 0xFFFFFF#24 0x400057#24 (by decide))

theorem waveform (v : Fin 3) (d : Byte) : Statement (.waveform v d) :=
  have h : ∀ x : Fin 3, (0b01#2 ++ 0#10 ++ regAddr 0x054 x) &&& 0xFFFFFC#24 = 0x400054#24 := by decide
  beq_iff_eq.mpr (bus_masked 0b01#2 (regAddr 0x054 v) d 0xFFFFFC#24 0x400054#24 (h v))

theorem dfwrite (i : Fin 8) (d : Byte) : Statement (.dfwrite i d) :=
  have h : ∀ x : Fin 8, (0b01#2 ++ 0#10 ++ regAddr 0x058 x) &&& 0xFFFFF8#24 = 0x400058#24 := by decide
  beq_iff_eq.mpr (bus_masked 0b01#2 (regAddr 0x058 i) d 0xFFFFF8#24 0x400058#24 (h i))

theorem rwrite (k : Fin 4) (d : Byte) : Statement (.rwrite k d) :=
  have h : ∀ x : Fin 4, (0b01#2 ++ 0#10 ++ regAddr 0x060 x) &&& 0xFFFFFC#24 = 0x400060#24 := by decide
  beq_iff_eq.mpr (bus_masked 0b01#2 (regAddr 0x060 k) d 0xFFFFFC#24 0x400060#24 (h k))

theorem rreset : Statement (.rreset) :=
  beq_iff_eq.mpr (bus_masked 0b01#2 0x064#12 0#8 0xFFFFFF#24 0x400064#24 (by decide))

theorem param (i : Fin 8) (d : Byte) : Statement (.param i d) :=
  have h : ∀ x : Fin 8, (0b01#2 ++ 0#10 ++ regAddr 0x068 x) &&& 0xFFFFF8#24 = 0x400068#24 := by decide
  beq_iff_eq.mpr (bus_masked 0b01#2 (regAddr 0x068 i) d 0xFFFFF8#24 0x400068#24 (h i))

theorem wign073 (d : Byte) : Statement (.wign073 d) :=
  beq_iff_eq.mpr (bus_masked 0b01#2 0x073#12 d 0xFFFFFF#24 0x400073#24 (by decide))

theorem note (v : Fin 3) (d : Byte) : Statement (.note v d) :=
  have h : ∀ x : Fin 3, (0b01#2 ++ 0#10 ++ regAddr 0x070 x) &&& 0xFFFFFC#24 = 0x400070#24 := by decide
  beq_iff_eq.mpr (bus_masked 0b01#2 (regAddr 0x070 v) d 0xFFFFFC#24 0x400070#24 (h v))

theorem wign (a : BusAddr) (d : Byte) : Statement (.wign a d) := beq_iff_eq.mpr (bus_masked_port 0b01#2 a d)

theorem tick (fe fr : BitVec 8) (mu : BitVec 3) (rn : Bool) : Statement (.tick fe fr mu rn) := by
  refine beq_iff_eq.mpr ?_
  change (0b10#2 ++ 0#10 ++ BitVec.ofBool rn ++ mu ++ fr ++ fe) &&& (0xFFF#12 ++ 0#1 ++ 0#3 ++ 0#8 ++ 0#8) = _
  simp only [BitVec.and_append, BitVec.and_zero]
  rfl

theorem dbgSnapshot : Statement .dbgSnapshot := rfl

theorem dbgReadram (start count : BitVec 13) : Statement (.dbgReadram start count) := by
  refine beq_iff_eq.mpr ?_
  change (0b11#2 ++ 1#4 ++ (start ++ count)) &&& (0x3F#6 ++ (0#13 ++ 0#13)) = _
  simp only [BitVec.and_append, BitVec.and_zero]
  rfl

theorem dbgCurrentram (start count : BitVec 13) : Statement (.dbgCurrentram start count) := by
  refine beq_iff_eq.mpr ?_
  change (0b11#2 ++ 2#4 ++ (start ++ count)) &&& (0x3F#6 ++ (0#13 ++ 0#13)) = _
  simp only [BitVec.and_append, BitVec.and_zero]
  rfl

theorem dbgWriteram (addr : BitVec 13) (value : Byte) : Statement (.dbgWriteram addr value) := by
  refine beq_iff_eq.mpr ?_
  change (0b11#2 ++ 3#4 ++ (addr ++ 0#5 ++ value)) &&& (0x3F#6 ++ (0#13 ++ 0x1F#5 ++ 0#8)) = _
  simp only [BitVec.and_append, BitVec.and_zero]
  rfl

theorem dbgForcebank (n : BitVec 26) : Statement (.dbgForcebank n) := by
  refine beq_iff_eq.mpr ?_
  change (0b11#2 ++ 4#4 ++ n) &&& (0x3F#6 ++ 0#26) = _
  simp only [BitVec.and_append, BitVec.and_zero]
  rfl

theorem dbgUnlock : Statement .dbgUnlock := rfl

theorem dbgLock : Statement .dbgLock := rfl

theorem dbgSetlock (b : Bool) : Statement (.dbgSetlock b) := by cases b <;> rfl

theorem dbgReport : Statement .dbgReport := rfl

theorem dbgRamsize : Statement .dbgRamsize := rfl

end Laws.EncodesIntoItsRow

end Sys2Proof
end

