-- ==== Sys2Proof/Laws/Step.lean ====
section
/-! SUPPORT. What one step can do, said once: every next state of `step` is one of three. -/

namespace Sys2Proof.Machine

variable {s t : State}

theorem step_of_fault {r : FaultRecord} (h : s.fault = some r) : step s = .fault r.kind.stop := by
  simp [step, h]

theorem step_of_empty (h : s.fault = none) (hp : s.pending = []) : step s = endOfRun s := by
  simp [step, h, hp]

theorem step_of_word {w : Word} {p : List Word} (h : s.fault = none) (hp : s.pending = w :: p) :
    step s = performWord w { s with pending := p } := by
  simp [step, h, hp]

/-- If a step answers a next state, then no fault stood, and either the run ended inside a bracket, or the next word
was performed, or it was refused (40_transactions.md R100, R108). -/
theorem step_cases (h : step s = .next t) :
    s.fault = none ∧
    ((s.pending = [] ∧ s.bracketOpen = true ∧
        t = { s with fault := some ⟨.lockMismatch, none⟩, result := .nothing }) ∨
     (∃ w p i, s.pending = w :: p ∧ decode w = .ok i ∧ exec i { s with pending := p } = .next t) ∨
     (∃ w p e, s.pending = w :: p ∧ decode w = .error e ∧
        t = { s with pending := p, fault := some ⟨.refused, some w⟩, result := .nothing })) := by
  cases hf : s.fault with
  | some r => simp [step_of_fault hf] at h
  | none =>
    refine ⟨rfl, ?_⟩
    cases hp : s.pending with
    | nil =>
      rw [step_of_empty hf hp, endOfRun] at h
      split at h
      · rename_i hb
        simp only [recordFault_eq, Host.Outcome.next.injEq] at h
        exact .inl ⟨rfl, hb, by rw [← h, hp]⟩
      · cases h
    | cons w p =>
      rw [step_of_word hf hp, performWord] at h
      cases hd : decode w with
      | ok i => exact .inr (.inl ⟨w, p, i, rfl, hd, by rw [hd] at h; simpa [hf] using h⟩)
      | error e =>
        simp only [hd, refuseWord_eq, Host.Outcome.next.injEq] at h
        exact .inr (.inr ⟨w, p, e, rfl, hd, h.symm⟩)

/-! ### Runs -/

theorem run_of_next {k : Nat} (h : step s = .next t) : core.run (k + 1) s = core.run k t := by
  simp only [Host.Core.run, core, h]

/-- A run of one more step that answers a next state begins with a step that answers one. -/
theorem run_succ_cases {k : Nat} (h : core.run (k + 1) s = .next t) :
    ∃ u, step s = .next u ∧ core.run k u = .next t := by
  cases hs : step s with
  | next u => exact ⟨u, rfl, by rwa [run_of_next hs] at h⟩
  | fault r => simp only [Host.Core.run, core, hs] at h; cases h
  | refused r => simp only [Host.Core.run, core, hs] at h; cases h

end Sys2Proof.Machine
end

