-- ==== Sys2Proof/Laws/Tick.lean ====
section
/-! SUPPORT. What one tick does, element by element: each loop of spec/40_transactions.md R104 as one equation, and
the whole tick as one equation. -/

namespace Sys2Proof.Machine

variable (s : State)

theorem advanceStrobed_nil {n w : Nat} (b : BitVec w) (f : Fin n → State → State) :
    advanceStrobed b f [] s = s := rfl

theorem advanceStrobed_cons {n w : Nat} (b : BitVec w) (f : Fin n → State → State) (x : Fin n)
    (xs : List (Fin n)) :
    advanceStrobed b f (x :: xs) s = advanceStrobed b f xs (if b.getLsbD x.val then f x s else s) := rfl

/-- The value accumulator `i` takes from one advance (42_fractional.md R140). -/
def fracNext (s : State) (i : Fin numFetchers) : BitVec 16 :=
  (if 256 ≤ (fractionOf s.regs.fractionalCounters[i]).toNat + s.regs.fractionalIncrements[i].toNat
   then s.next8At i (integerOf s.regs.fractionalCounters[i]) else integerOf s.regs.fractionalCounters[i]) ++
  BitVec.ofNat 8 ((fractionOf s.regs.fractionalCounters[i]).toNat + s.regs.fractionalIncrements[i].toNat)

theorem advanceFractional_eq (i : Fin numFetchers) :
    advanceFractional i s = s.mapRegs (·.setFracCounter i (fracNext s i)) := rfl

/-- The fetcher counters after the strobed fetchers of `xs` have advanced (41_data_fetchers.md R120). -/
def countersAfter (fe : BitVec 8) (xs : List (Fin numFetchers)) (s : State) : Vector Byte numFetchers :=
  Vector.ofFn fun i => if i ∈ xs ∧ fe.getLsbD i.val = true then s.next8At i s.regs.counters[i] else s.regs.counters[i]

theorem advanceFetchers_eq (fe : BitVec 8) (xs : List (Fin numFetchers)) (hx : xs.Nodup) :
    advanceStrobed fe advanceFetcher xs s = s.mapRegs fun r => { r with counters := countersAfter fe xs s } := by
  induction xs generalizing s with
  | nil =>
    have : countersAfter fe [] s = s.regs.counters := by ext i hi; simp [countersAfter]
    simp [advanceStrobed_nil, State.mapRegs, this]
  | cons x xs ih =>
    obtain ⟨hx₁, hx₂⟩ := List.nodup_cons.mp hx
    rw [advanceStrobed_cons, ih _ hx₂]
    split
    · rename_i hb
      simp only [State.mapRegs, countersAfter, advanceFetcher, ChipRegisters.setCounter, State.next8At]
      congr 2
      ext i hi : 1
      by_cases h : x.val = i
      · subst h
        simp_all
      · simp [Vector.getElem_set, h, Fin.ext_iff, Ne.symm h]
    · rename_i hb
      simp only [State.mapRegs, countersAfter]
      congr 2
      ext i hi : 1
      by_cases h : x.val = i
      · subst h
        simp_all
      · simp [Fin.ext_iff, Ne.symm h]

/-- The accumulators after the strobed accumulators of `xs` have advanced (42_fractional.md R140). -/
def fracCountersAfter (fr : BitVec 8) (xs : List (Fin numFetchers)) (s : State) : Vector (BitVec 16) numFetchers :=
  Vector.ofFn fun i => if i ∈ xs ∧ fr.getLsbD i.val = true then fracNext s i else s.regs.fractionalCounters[i]

theorem advanceFractionals_eq (fr : BitVec 8) (xs : List (Fin numFetchers)) (hx : xs.Nodup) :
    advanceStrobed fr advanceFractional xs s = s.mapRegs fun r => { r with fractionalCounters := fracCountersAfter fr xs s } := by
  induction xs generalizing s with
  | nil =>
    have : fracCountersAfter fr [] s = s.regs.fractionalCounters := by ext i hi; simp [fracCountersAfter]
    simp [advanceStrobed_nil, State.mapRegs, this]
  | cons x xs ih =>
    obtain ⟨hx₁, hx₂⟩ := List.nodup_cons.mp hx
    rw [advanceStrobed_cons, ih _ hx₂]
    split
    · rename_i hb
      simp only [State.mapRegs, fracCountersAfter, advanceFractional_eq, ChipRegisters.setFracCounter, State.next8At, fracNext]
      congr 2
      ext i hi : 1
      by_cases h : x.val = i
      · subst h
        simp_all
      · simp [Vector.getElem_set, h, Fin.ext_iff, Ne.symm h]
    · rename_i hb
      simp only [State.mapRegs, fracCountersAfter]
      congr 2
      ext i hi : 1
      by_cases h : x.val = i
      · subst h
        simp_all
      · simp [Fin.ext_iff, Ne.symm h]

/-- The music counters after the strobed voices of `xs` have advanced (43_music_mixer.md R160). -/
def musicCountersAfter (mu : BitVec 3) (xs : List (Fin numVoices)) (s : State) : Vector Word numVoices :=
  Vector.ofFn fun i => if i ∈ xs ∧ mu.getLsbD i.val = true then s.regs.musicCounters[i] + s.regs.musicFrequencies[i] else s.regs.musicCounters[i]

theorem advanceVoices_eq (mu : BitVec 3) (xs : List (Fin numVoices)) (hx : xs.Nodup) :
    advanceStrobed mu advanceMusic xs s = s.mapRegs fun r => { r with musicCounters := musicCountersAfter mu xs s } := by
  induction xs generalizing s with
  | nil =>
    have : musicCountersAfter mu [] s = s.regs.musicCounters := by ext i hi; simp [musicCountersAfter]
    simp [advanceStrobed_nil, State.mapRegs, this]
  | cons x xs ih =>
    obtain ⟨hx₁, hx₂⟩ := List.nodup_cons.mp hx
    rw [advanceStrobed_cons, ih _ hx₂]
    split
    · rename_i hb
      simp only [State.mapRegs, musicCountersAfter, advanceMusic, ChipRegisters.setMusicCounter]
      congr 2
      ext i hi : 1
      by_cases h : x.val = i
      · subst h
        simp_all
      · simp [Vector.getElem_set, h, Fin.ext_iff, Ne.symm h]
    · rename_i hb
      simp only [State.mapRegs, musicCountersAfter]
      congr 2
      ext i hi : 1
      by_cases h : x.val = i
      · subst h
        simp_all
      · simp [Fin.ext_iff, Ne.symm h]

theorem mem_fetcherList (i : Fin numFetchers) : i ∈ fetcherList := by revert i; decide

theorem mem_voiceList (v : Fin numVoices) : v ∈ voiceList := by revert v; decide

/-- The register file after one tick, in terms of the state before it (40_transactions.md R104). -/
def tickedRegs (fe fr : BitVec 8) (mu : BitVec 3) (rn : Bool) (s : State) : ChipRegisters :=
  { s.regs with
    counters := countersAfter fe fetcherList s
    fractionalCounters := fracCountersAfter fr fetcherList s
    musicCounters := musicCountersAfter mu voiceList s
    randomNumber := if rn then lfsrStep s.regs.randomNumber else s.regs.randomNumber }

/-- The whole tick as one equation. -/
theorem tickUnits_eq (fe fr : BitVec 8) (mu : BitVec 3) (rn : Bool) :
    tickUnits fe fr mu rn s = { s with regs := tickedRegs fe fr mu rn s } := by
  simp only [tickUnits, advanceFetchers_eq _ _ _ (by decide : fetcherList.Nodup),
    advanceFractionals_eq _ _ _ (by decide : fetcherList.Nodup),
    advanceVoices_eq _ _ _ (by decide : voiceList.Nodup)]
  cases rn <;> rfl

theorem tickedRegs_counter (fe fr : BitVec 8) (mu : BitVec 3) (rn : Bool) (i : Fin numFetchers) :
    (tickedRegs fe fr mu rn s).counters[i] =
      if fe.getLsbD i.val = true then s.next8At i s.regs.counters[i] else s.regs.counters[i] := by
  simp [tickedRegs, countersAfter, mem_fetcherList]

theorem tickedRegs_fracCounter (fe fr : BitVec 8) (mu : BitVec 3) (rn : Bool) (i : Fin numFetchers) :
    (tickedRegs fe fr mu rn s).fractionalCounters[i] =
      if fr.getLsbD i.val = true then fracNext s i else s.regs.fractionalCounters[i] := by
  simp [tickedRegs, fracCountersAfter, mem_fetcherList]

theorem tickedRegs_musicCounter (fe fr : BitVec 8) (mu : BitVec 3) (rn : Bool) (v : Fin numVoices) :
    (tickedRegs fe fr mu rn s).musicCounters[v] =
      if mu.getLsbD v.val = true then s.regs.musicCounters[v] + s.regs.musicFrequencies[v]
      else s.regs.musicCounters[v] := by
  simp [tickedRegs, musicCountersAfter, mem_voiceList]

/-- A tick always completes, with the register file of `tickedRegs` and no result (40_transactions.md R104). -/
theorem exec_tick (fe fr : BitVec 8) (mu : BitVec 3) (rn : Bool) :
    exec (.tick fe fr mu rn) s = .next { s with regs := tickedRegs fe fr mu rn s, result := .nothing } := by
  show complete .nothing (tickUnits fe fr mu rn s) = _
  rw [tickUnits_eq]
  rfl

end Sys2Proof.Machine
end

