-- ==== Sys2Proof/Machine/Assembly.lean ====
section
/-! DEFINITION. The spec's assembly language (spec/30_encoding.md R80, R81): the text of a transaction, the raw bus
forms, and the pseudo-instructions with their expansions. -/

namespace Sys2Proof.Machine

/-- A pseudo-instruction (R81). -/
inductive Pseudo
  /-- `CLOCK n`: `n` clocks of the chip, each of which advances all eight accumulators; `CLOCK` is `CLOCK 1` -/
  | clock (n : Nat)
  /-- `REPEAT n, <tick>` -/
  | repeatTick (n : Nat) (fe fr : BitVec 8) (mu : BitVec 3) (rn : Bool)
  /-- `BANK n`, `n` in 0..5 -/
  | bank (n : Fin bankCount)
  /-- `SETRANDOM x` -/
  | setRandom (x : Word)
  /-- `SETFRAC i, int, inc` -/
  | setFrac (i : Fin numFetchers) (int inc : Byte)
  /-- `VOICE v, note, wave` -/
  | voice (v : Fin numVoices) (note wave : Byte)
  deriving DecidableEq, Repr

/-- The transactions a pseudo-instruction stands for, in order (R81). -/
def Pseudo.expand : Pseudo → List Instr
  | .clock n                  => List.replicate n (.tick 0x00#8 0xFF#8 0#3 false)
  | .repeatTick n fe fr mu rn => List.replicate n (.tick fe fr mu rn)
  | .bank n                   => [hotspotOf n .read]
  | .setRandom x              => [.rwrite 0 (x.extractLsb' 0 8), .rwrite 1 (x.extractLsb' 8 8),
                                  .rwrite 2 (x.extractLsb' 16 8), .rwrite 3 (x.extractLsb' 24 8)]
  | .setFrac i int inc        => [.fracint i int, .fracinc i inc]
  | .voice v note wave        => [.note v note, .waveform v wave]

/-- The raw form `RD a`: the transaction of the bus read at `a` (R80). -/
def rawRead (a : BusAddr) : Instr := decodeRead a

/-- The raw form `WR a, d`: the transaction of the bus write of `d` at `a` (R80). -/
def rawWrite (a : BusAddr) (d : Byte) : Instr := decodeWrite a d

/-- A line of assembly: the mnemonic and its operands as decimal numbers (R80). -/
def asmLine (mnemonic : String) (operands : List Nat) : String :=
  match operands with
  | []      => mnemonic
  | x :: xs => mnemonic ++ " " ++ xs.foldl (fun line y => line ++ ", " ++ toString y) (toString x)

/-- `HOTSPOT.R n` or `HOTSPOT.W n` (R80). -/
def asmHotspot (n : Nat) : Access → String
  | .read  => asmLine "HOTSPOT.R" [n]
  | .write => asmLine "HOTSPOT.W" [n]

/-- The assembly text of a transaction (R80). -/
def assembly : Instr → String
  | .random k => asmLine "RANDOM" [k.val]
  | .amplitude => asmLine "AMPLITUDE" []
  | .rdrsv005 => asmLine "RDRSV" [0x005]
  | .rdrsv006 x => asmLine "RDRSV" [0x006 + x.val]
  | .dfdata i => asmLine "DFDATA" [i.val]
  | .dffrac i => asmLine "DFFRAC" [i.val]
  | .rdrsv018 x => asmLine "RDRSV" [0x018 + x.val]
  | .rdrsv020 x => asmLine "RDRSV" [0x020 + x.val]
  | .hotspot0 rw => asmHotspot 0 rw
  | .hotspot1 rw => asmHotspot 1 rw
  | .hotspot2 rw => asmHotspot 2 rw
  | .hotspot3 rw => asmHotspot 3 rw
  | .hotspot4 rw => asmHotspot 4 rw
  | .hotspot5 rw => asmHotspot 5 rw
  | .romrd a => asmLine "ROMRD" [a.toNat]
  | .fracint i d => asmLine "FRACINT" [i.val, d.toNat]
  | .fracinc i d => asmLine "FRACINC" [i.val, d.toNat]
  | .dftop i d => asmLine "DFTOP" [i.val, d.toNat]
  | .dfbot i d => asmLine "DFBOT" [i.val, d.toNat]
  | .dflow i d => asmLine "DFLOW" [i.val, d.toNat]
  | .fastfetch d => asmLine "FASTFETCH" [d.toNat]
  | .immlda d => asmLine "IMMLDA" [d.toNat]
  | .wign057 d => asmLine "WIGN" [0x057, d.toNat]
  | .waveform v d => asmLine "WAVEFORM" [v.val, d.toNat]
  | .dfwrite i d => asmLine "DFWRITE" [i.val, d.toNat]
  | .rwrite k d => asmLine "RWRITE" [k.val, d.toNat]
  | .rreset => asmLine "RRESET" []
  | .param i d => asmLine "PARAM" [i.val, d.toNat]
  | .wign073 d => asmLine "WIGN" [0x073, d.toNat]
  | .note v d => asmLine "NOTE" [v.val, d.toNat]
  | .wign a d => asmLine "WIGN" [a.toNat, d.toNat]
  | .tick fe fr mu rn =>
    "TICK fe=" ++ toString fe.toNat ++ ", fr=" ++ toString fr.toNat ++ ", mu=" ++ toString mu.toNat ++ ", rn=" ++
      toString rn.toNat
  | .dbgSnapshot => asmLine "DBG.SNAPSHOT" []
  | .dbgReadram start count => asmLine "DBG.READRAM" [start.toNat, count.toNat]
  | .dbgCurrentram start count => asmLine "DBG.CURRENTRAM" [start.toNat, count.toNat]
  | .dbgWriteram addr value => asmLine "DBG.WRITERAM" [addr.toNat, value.toNat]
  | .dbgForcebank n => asmLine "DBG.FORCEBANK" [n.toNat]
  | .dbgUnlock => asmLine "DBG.UNLOCK" []
  | .dbgLock => asmLine "DBG.LOCK" []
  | .dbgSetlock b => asmLine "DBG.SETLOCK" [b.toNat]
  | .dbgReport => asmLine "DBG.REPORT" []
  | .dbgRamsize => asmLine "DBG.RAMSIZE" []

end Sys2Proof.Machine
end

