-- ==== Sys2Proof/Tests/Slice0.lean ====
section
/-! SUPPORT. The model's own tests. Every expected value is the spec's: the vectors of spec/95_test_vectors.md
(section named at each group) or a word written out from spec/30_encoding.md. The witnesses at the end show, for
every statement with hypotheses, a concrete state and operands that meet all of them. -/

namespace Sys2Proof.Machine.Tests

/-! ### Small states -/

/-- The few ROM bytes the tests read, as in 95_test_vectors.md section 0: every byte of bank `b` is `0xB0 + b`. -/
def rom : Memory :=
  [(0xFF6, 0xB0), (0xFF9, 0xB0), (0xFFC, 0xB0), (0x2028, 0xB2), (0x2FF6, 0xB2), (0x5100, 0xB5), (0x5FF7, 0xB5),
   (0x5FF8, 0xB5), (0x5FFA, 0xB5), (0x5FFB, 0xB5)]

/-- A block from construction, with the default parameters and the given display RAM. -/
def block (ram : Memory) : State := State.construct { Config.default with progRom := rom, ramInit := ram }

/-- The same under `FETCH_WRAP = WINDOW`. -/
def windowBlock : State := State.construct { Config.default with fetchWrap := .window }

/-- The state after one step on the word `w`, if there is one. -/
def after (w : Nat) (s : State) : Option State :=
  match step (s.withFetchWord 32 w) with
  | .next t    => some t
  | .fault _   => none
  | .refused _ => none

/-- The result of one step on the word `w`. -/
def answer (w : Nat) (s : State) : Option Result := (after w s).map State.result

/-- The register file after one step on the word `w`. -/
def regsAfter (w : Nat) (s : State) : Option ChipRegisters := (after w s).map State.regs

/-! ### Well-formedness: each check refuses an ill-formed term -/

theorem test_wf_romrd_refuses_read_registers :
    (Instr.romrd 0x000).wf = false ∧ (Instr.romrd 0x027).wf = false ∧ (Instr.romrd 0x028).wf = true := by decide

theorem test_wf_romrd_refuses_hotspots :
    (Instr.romrd 0xFF6).wf = false ∧ (Instr.romrd 0xFFB).wf = false ∧ (Instr.romrd 0xFF5).wf = true ∧
    (Instr.romrd 0xFFC).wf = true := by decide

theorem test_wf_wign_refuses_write_registers :
    (Instr.wign 0x028 0).wf = false ∧ (Instr.wign 0x051 0).wf = false ∧ (Instr.wign 0x054 0).wf = false ∧
    (Instr.wign 0x057 0).wf = false ∧ (Instr.wign 0x064 0).wf = false ∧ (Instr.wign 0x068 0).wf = false ∧
    (Instr.wign 0x073 0).wf = false := by decide

theorem test_wf_wign_refuses_hotspots :
    (Instr.wign 0xFF6 0).wf = false ∧ (Instr.wign 0xFFB 0).wf = false := by decide

theorem test_wf_wign_takes_unmapped :
    (Instr.wign 0x027 9).wf = true ∧ (Instr.wign 0x052 1).wf = true ∧ (Instr.wign 0x053 1).wf = true ∧
    (Instr.wign 0x065 1).wf = true ∧ (Instr.wign 0x067 1).wf = true ∧ (Instr.wign 0x074 1).wf = true ∧
    (Instr.wign 0xFF5 1).wf = true ∧ (Instr.wign 0xFFC 1).wf = true := by decide

/-! ### Decoding: one word for every constructor, port, reserved bits, `A`, `D` written out (30_encoding.md R71 to
R76; 95_test_vectors.md 2.1) -/

theorem test_decode_random : decode 0b00_0000000000_000000000010_00000000 = .ok (.random 2) := rfl
theorem test_decode_amplitude : decode 0b00_0000000000_000000000100_11111111 = .ok .amplitude := rfl
theorem test_decode_rdrsv005 : decode 0b00_0000000000_000000000101_00000000 = .ok .rdrsv005 := rfl
theorem test_decode_rdrsv006 : decode 0b00_0000000000_000000000111_00000000 = .ok (.rdrsv006 1) := rfl
theorem test_decode_dfdata : decode 0b00_0000000000_000000001011_00000000 = .ok (.dfdata 3) := rfl
theorem test_decode_dffrac : decode 0b00_0000000000_000000010010_00000000 = .ok (.dffrac 2) := rfl
theorem test_decode_rdrsv018 : decode 0b00_0000000000_000000011101_00000000 = .ok (.rdrsv018 5) := rfl
theorem test_decode_rdrsv020 : decode 0b00_0000000000_000000100111_00000000 = .ok (.rdrsv020 7) := rfl
theorem test_decode_hotspot0 : decode 0b01_0000000000_111111110110_10101010 = .ok (.hotspot0 .write) := rfl
theorem test_decode_hotspot1 : decode 0b00_0000000000_111111110111_00000000 = .ok (.hotspot1 .read) := rfl
theorem test_decode_hotspot2 : decode 0b00_0000000000_111111111000_00000000 = .ok (.hotspot2 .read) := rfl
theorem test_decode_hotspot3 : decode 0b01_0000000000_111111111001_00000000 = .ok (.hotspot3 .write) := rfl
theorem test_decode_hotspot4 : decode 0b00_0000000000_111111111010_00000001 = .ok (.hotspot4 .read) := rfl
theorem test_decode_hotspot5 : decode 0b01_0000000000_111111111011_00000000 = .ok (.hotspot5 .write) := rfl
theorem test_decode_romrd : decode 0b00_0000000000_000100100011_00000000 = .ok (.romrd 0x123) := rfl
theorem test_decode_romrd_at_write_register : decode 0x00002800 = .ok (.romrd 0x028) := rfl
theorem test_decode_romrd_above_hotspots : decode 0x000FFC00 = .ok (.romrd 0xFFC) := rfl
theorem test_decode_fracint : decode 0b01_0000000000_000000101010_01000000 = .ok (.fracint 2 0x40) := rfl
theorem test_decode_fracinc : decode 0b01_0000000000_000000110010_10000000 = .ok (.fracinc 2 0x80) := rfl
theorem test_decode_dftop : decode 0b01_0000000000_000000111011_00100000 = .ok (.dftop 3 0x20) := rfl
theorem test_decode_dfbot : decode 0b01_0000000000_000001000011_00001000 = .ok (.dfbot 3 0x08) := rfl
theorem test_decode_dflow : decode 0b01_0000000000_000001001010_01000000 = .ok (.dflow 2 0x40) := rfl
theorem test_decode_fastfetch : decode 0b01_0000000000_000001010000_00000001 = .ok (.fastfetch 0x01) := rfl
theorem test_decode_immlda : decode 0b01_0000000000_000001010001_10000000 = .ok (.immlda 0x80) := rfl
theorem test_decode_wign057 : decode 0b01_0000000000_000001010111_00000011 = .ok (.wign057 0x03) := rfl
theorem test_decode_waveform : decode 0b01_0000000000_000001010101_00000011 = .ok (.waveform 1 0x03) := rfl
theorem test_decode_dfwrite : decode 0b01_0000000000_000001011111_00010010 = .ok (.dfwrite 7 0x12) := rfl
theorem test_decode_rwrite : decode 0b01_0000000000_000001100011_11111111 = .ok (.rwrite 3 0xFF) := rfl
theorem test_decode_rreset : decode 0b01_0000000000_000001100100_01010101 = .ok .rreset := rfl
theorem test_decode_param : decode 0b01_0000000000_000001101111_01000010 = .ok (.param 7 0x42) := rfl
theorem test_decode_wign073 : decode 0b01_0000000000_000001110011_00000000 = .ok (.wign073 0x00) := rfl
theorem test_decode_note : decode 0b01_0000000000_000001110010_11111111 = .ok (.note 2 0xFF) := rfl
theorem test_decode_wign : decode 0b01_0000000000_000111111111_01010101 = .ok (.wign 0x1FF 0x55) := rfl
theorem test_decode_wign_at_read_register : decode 0x40000009 = .ok (.wign 0x000 0x09) := rfl
theorem test_decode_tick : decode 0b10_0000000000_1_111_11111111_00000001 = .ok (.tick 0x01 0xFF 7 true) := rfl
theorem test_decode_tick_fields : decode 0b10_0000000000_0_010_10000000_00000100 = .ok (.tick 0x04 0x80 2 false) := rfl
theorem test_decode_snapshot : decode 0b11_0000_00000000000000000000000000 = .ok .dbgSnapshot := rfl
theorem test_decode_readram : decode 0b11_0001_1001111111111_0000000000010 = .ok (.dbgReadram 5119 2) := rfl
theorem test_decode_currentram : decode 0b11_0010_1001111111111_0000000000010 = .ok (.dbgCurrentram 5119 2) := rfl
theorem test_decode_writeram : decode 0b11_0011_1000000000100_00000_00001000 = .ok (.dbgWriteram 0x1004 0x08) := rfl
theorem test_decode_forcebank : decode 0b11_0100_00000000000010011100001111 = .ok (.dbgForcebank 9999) := rfl
theorem test_decode_unlock : decode 0b11_0101_00000000000000000000000000 = .ok .dbgUnlock := rfl
theorem test_decode_lock : decode 0b11_0110_00000000000000000000000000 = .ok .dbgLock := rfl
theorem test_decode_setlock : decode 0b11_0111_00000000000000000000000001 = .ok (.dbgSetlock true) := rfl
theorem test_decode_report : decode 0b11_1000_00000000000000000000000000 = .ok .dbgReport := rfl
theorem test_decode_ramsize : decode 0b11_1001_00000000000000000000000000 = .ok .dbgRamsize := rfl

/-- The refused words of 95_test_vectors.md 2.1, each by the name of its reason (30_encoding.md R78). -/
theorem test_refused_words :
    decode 0x00100000 = .error .busReservedBits ∧ decode 0x3FF00000 = .error .busReservedBits ∧
    decode 0x80100000 = .error .tickReservedBits ∧ decode 0xC0000001 = .error .debugReservedBits ∧
    decode 0xCC000100 = .error .debugReservedBits ∧ decode 0xD4000001 = .error .debugReservedBits ∧
    decode 0xDC000002 = .error .debugReservedBits ∧ decode 0xE8000000 = .error .debugReservedOp ∧
    decode 0xFC000000 = .error .debugReservedOp := ⟨rfl, rfl, rfl, rfl, rfl, rfl, rfl, rfl, rfl⟩

/-- The table word of a row, and a number that is no 32-bit word. -/
theorem test_table_word :
    decodeTableWord 32 0x000FF600 = some (.hotspot0 .read) ∧ decodeTableWord 32 0xE8000000 = none ∧
    decodeTableWord 32 0x100000000 = none := ⟨rfl, rfl, rfl⟩

/-! ### Pseudo-instructions (30_encoding.md R81; words of 95_test_vectors.md 2.6, 3.2, 3.3) -/

theorem test_setrandom_expands :
    (Pseudo.setRandom 0x44332211).expand.map encode = [0x40006011, 0x40006122, 0x40006233, 0x40006344] := by decide
theorem test_clock_expands : (Pseudo.clock 2).expand.map encode = [0x8000FF00, 0x8000FF00] := by decide
theorem test_bank_expands : (Pseudo.bank 2).expand.map encode = [0x000FF800] := by decide
theorem test_setfrac_expands : (Pseudo.setFrac 2 0x40 0x80).expand.map encode = [0x40002A40, 0x40003280] := by decide
theorem test_voice_expands : (Pseudo.voice 0 1 1).expand.map encode = [0x40007001, 0x40005401] := by decide
theorem test_assembly_text : assembly (.fracinc 2 0x80) = "FRACINC 2, 128" := by decide

/-! ### Memory -/

theorem test_reset_memory_canonical : Memory.wf ramSize State.reset.regs.displayImage = true := by decide

theorem test_write_keeps_order : Memory.write [(3, 7), (9, 1)] 5 2 = [(3, 7), (5, 2), (9, 1)] := by decide

theorem test_write_of_unlisted_value_removes : Memory.write [(3, 7), (5, 2)] 5 0 = [(3, 7)] := by decide

/-! ### One step of each instruction (95_test_vectors.md 2.2 to 2.9) -/

-- 2.2, 2.6
theorem test_random_lanes :
    answer 0x00000000 State.reset = some (.byte 0x44) ∧ answer 0x00000100 State.reset = some (.byte 0x50) := by decide

-- 2.3
/-- Fetcher 0, accumulator 0, voice 0 and the generator, each at a wrap of its own (2.3 to 2.6), fetcher 1 not strobed. -/
theorem test_tick_advances_each_strobed_unit :
    (regsAfter 0x80090101 { State.reset with regs :=
      (((((State.reset.regs.setCounter 0 0xFF).setFracCounter 0 0xFFF0).setFracIncrement 0 0x20).setMusicCounter 0
        0xF8000000).setMusicFrequency 0 0x10000000).setRandom 0x00000400 }).map
      (fun r => (r.counters[0], r.counters[1], r.fractionalCounters[0], r.musicCounters[0], r.randomNumber)) =
      some (0x00, 0x00, 0x0010, 0x08000000, 0x90ADAB1E) := by decide
/-- `WINDOW`: a counter and an integer part at `tops` go to `bottoms` (2.3, 2.4). -/
theorem test_tick_window :
    (regsAfter 0x80000201 { windowBlock with regs :=
      (((((windowBlock.regs.setTop 0 0x01).setBottom 0 0xFE).setCounter 0 0x01).setTop 1 0x12).setBottom 1 0x10
        |>.setFracCounter 1 0x12F0 |>.setFracIncrement 1 0x20) }).map
      (fun r => (r.counters[0], r.fractionalCounters[1])) = some (0xFE, 0x1010) := by decide
theorem test_dfdata :
    answer 0x00000B00 { block [(0x310, 0xAB)] with regs := (block [(0x310, 0xAB)]).regs.setCounter 3 0x10 } =
      some (.byte 0xAB) := by decide
theorem test_dflow : (regsAfter 0x40004A40 State.reset).map (fun r => (r.counters[2], r.fractionalCounters[2])) =
    some (0x40, 0x0000) := by decide
theorem test_dftop : (regsAfter 0x40003B20 State.reset).map (fun r => (r.tops[3], r.bottoms[3], r.counters[3])) =
    some (0x20, 0x00, 0x00) := by decide
theorem test_dfbot : (regsAfter 0x40004308 State.reset).map (fun r => (r.tops[3], r.bottoms[3], r.counters[3])) =
    some (0x00, 0x08, 0x00) := by decide
theorem test_dfwrite :
    (regsAfter 0x40005899 { State.reset with regs := State.reset.regs.setCounter 0 0x05 }).map
      (fun r => (r.displayImage, r.counters[0])) = some ([(0x0005, 0x99)], 0x05) := by decide
theorem test_dfwrite_last_byte :
    (regsAfter 0x40005F12 (State.construct { Config.default with fetchPage := Config.default.fetchPage.set 7 19 }
      |>.mapRegs (·.setCounter 7 0xFF))).map (·.displayImage) = some [(0x13FF, 0x12)] := by decide

-- 2.4
theorem test_fracinc :
    (regsAfter 0x40003280 { State.reset with regs := State.reset.regs.setFracCounter 2 0x4180 }).map
      (fun r => (r.fractionalCounters[2], r.fractionalIncrements[2])) = some (0x4100, 0x80) := by decide
theorem test_fracint :
    (regsAfter 0x40002A40 { State.reset with regs :=
      (State.reset.regs.setFracCounter 2 0x4100).setFracIncrement 2 0x80 }).map
      (fun r => (r.fractionalCounters[2], r.fractionalIncrements[2])) = some (0x4000, 0x80) := by decide
theorem test_dffrac :
    answer 0x00001200 { block [(0x241, 0x5A)] with regs := (block [(0x241, 0x5A)]).regs.setFracCounter 2 0x4180 } =
      some (.byte 0x5A) := by decide

-- 2.5
theorem test_amplitude :
    answer 0x00000400 { block [(0x000, 0xFF), (0x020, 0xFF), (0x040, 0xFF)] with regs :=
      ((block [(0x000, 0xFF), (0x020, 0xFF), (0x040, 0xFF)]).regs.setMusicWaveform 1 1).setMusicWaveform 2 2 } =
      some (.byte 0xFD) := by decide
theorem test_amplitude_last_waveform_byte :
    answer 0x00000400 { block [(0x1FF, 0x44)] with regs :=
      ((block [(0x1FF, 0x44)]).regs.setMusicCounter 0 0xF8000000).setMusicWaveform 0 15 } =
      some (.byte 0x44) := by decide
theorem test_waveform_takes_low_bits : (regsAfter 0x4000541F State.reset).map (·.musicWaveforms[0]) = some 15 := by decide
theorem test_note_last_entry :
    (regsAfter 0x400072FF (block [(0x13FC, 0x78), (0x13FD, 0x56), (0x13FE, 0x34), (0x13FF, 0x12)])).map
      (·.musicFrequencies[2]) = some 0x12345678 := by decide
theorem test_wign073 : (after 0x400073FF State.reset).map (·.regs) = some State.reset.regs := by decide
theorem test_wign057 : (after 0x40005703 State.reset).map (·.regs) = some State.reset.regs := by decide

-- 2.6
theorem test_rwrite : (regsAfter 0x400063FF State.reset).map (·.randomNumber) = some 0xFF435044 := by decide
theorem test_rreset :
    (regsAfter 0x40006400 { State.reset with regs := State.reset.regs.setRandom 0 }).map (·.randomNumber) =
      some 0x2B435044 := by decide

-- 2.7
theorem test_romrd : answer 0x00010000 (block []) = some (.byte 0xB5) := by decide
theorem test_romrd_first_rom_address :
    answer 0x00002800 { block [] with regs := (block []).regs.setBank 2 } = some (.byte 0xB2) := by decide
theorem test_hotspot2_returns_old_bank :
    ((after 0x000FF800 (block [])).map fun t => (t.result, t.regs.currentBank)) = some (.byte 0xB5, 2) := by decide
theorem test_hotspot0_write :
    ((after 0x400FF600 { block [] with regs := (block []).regs.setBank 2 }).map fun t =>
      (t.result, t.regs.currentBank)) = some (.nothing, 0) := by decide
theorem test_hotspot3_locked :
    ((after 0x000FF900 { block [] with regs := (block []).regs.setBank 0, bankLocked := true }).map fun t =>
      (t.result, t.regs.currentBank)) = some (.byte 0xB0, 0) := by decide
theorem test_hotspot1_read :
    ((after 0x000FF700 (block [])).map fun t => (t.result, t.regs.currentBank)) = some (.byte 0xB5, 1) := by decide
theorem test_hotspot4_read :
    ((after 0x000FFA00 (block [])).map fun t => (t.result, t.regs.currentBank)) = some (.byte 0xB5, 4) := by decide
theorem test_hotspot5_read_of_own_bank :
    ((after 0x000FFB00 (block [])).map fun t => (t.result, t.regs.currentBank)) = some (.byte 0xB5, 5) := by decide
theorem test_rdrsv :
    answer 0x00000500 (block []) = some (.byte 0x00) ∧ answer 0x00000600 (block []) = some (.byte 0x00) ∧
    answer 0x00001800 (block []) = some (.byte 0x00) ∧ answer 0x00002700 (block []) = some (.byte 0x00) := by decide
theorem test_fastfetch_zero_sets : (regsAfter 0x40005000 State.reset).map (·.fastFetch) = some true := by decide
theorem test_fastfetch_one_clears :
    (regsAfter 0x40005001 { State.reset with regs := State.reset.regs.setFastFetch true }).map (·.fastFetch) =
      some false := by decide
theorem test_immlda_zero_sets : (regsAfter 0x40005100 State.reset).map (·.immediateLDA) = some true := by decide
theorem test_immlda_other_clears :
    (regsAfter 0x40005180 { State.reset with regs := State.reset.regs.setImmediateLDA true }).map (·.immediateLDA) =
      some false := by decide
theorem test_param : (regsAfter 0x40006F42 State.reset).map (·.parameter[7]) = some 0x42 := by decide
theorem test_wign : (after 0x4001FF55 State.reset).map (·.regs) = some State.reset.regs := by decide

-- 2.8
theorem test_snapshot :
    ((after 0xC0000000 State.reset).map fun t => (t.snapshot.randomNumber, t.snapshot.currentBank, t.snapTaken)) =
      some (0x2B435044, 5, true) := by decide
/-- The construction snapshot is zero: `randomNumber` and `currentBank` are reported changed, `tops[0]` is not. -/
theorem test_report_at_construction :
    [Field.randomNumber, .currentBank, .tops 0].map (reportEntry State.reset.regs State.reset.snapshot) =
      [⟨.randomNumber, 0x2B435044, true⟩, ⟨.currentBank, 5, true⟩, ⟨.tops 0, 0, false⟩] := by decide
theorem test_report_length : reportFields.length = 5181 := by
  simp only [reportFields, List.length_append, List.length_map, List.length_range]
  rfl
theorem test_readram_empty : answer 0xC6800000 State.reset = some (.bytes []) := by decide
theorem test_readram_is_the_snapshot :
    answer 0xC6008001 { State.reset with regs := State.reset.regs.setByte 0x1004 0x08 } = some (.bytes [0x00]) := by decide
theorem test_currentram_is_live :
    answer 0xCA008001 { State.reset with regs := State.reset.regs.setByte 0x1004 0x08 } = some (.bytes [0x08]) := by decide
theorem test_currentram_out_of_bounds :
    answer 0xCA7FE002 State.reset = some (.rejected .ramBounds 5119 2) := by decide
theorem test_writeram : (regsAfter 0xCE008008 State.reset).map (·.displayImage) = some [(0x1004, 0x08)] := by decide
theorem test_writeram_out_of_bounds :
    ((after 0xCE800001 State.reset).map fun t => (t.result, t.regs.displayImage)) =
      some (.rejected .ramBounds 5120 1, []) := by decide
theorem test_setlock : (after 0xDC000001 State.reset).map (·.bankLocked) = some true := by decide
theorem test_unlock :
    ((after 0xD4000000 { State.reset with bankLocked := true }).map fun t =>
      (t.bankLocked, t.savedLock, t.bracketOpen)) = some (false, true, true) := by decide
theorem test_lock :
    ((after 0xD8000000 { State.reset with savedLock := true, bracketOpen := true }).map fun t =>
      (t.bankLocked, t.bracketOpen)) = some (true, false) := by decide
theorem test_forcebank_under_the_lock :
    ((after 0xD0000002 { State.reset with bankLocked := true }).map fun t => (t.regs.currentBank, t.bankLocked)) =
      some (2, true) ∧
    ((after 0xD000270F { State.reset with bankLocked := true }).map fun t =>
      (t.regs.currentBank, t.bankLocked, t.result, t.fault)) = some (5, true, .nothing, none) := by decide
theorem test_ramsize : answer 0xE4000000 State.reset = some (.size 5120) := by decide

-- 2.9
theorem test_refused_word_is_recorded :
    (after 0xE8000000 State.reset).map (·.fault) = some (some ⟨.refused, some 0xE8000000⟩) := by decide
theorem test_no_step_after_a_fault :
    after 0x00000000 { State.reset with fault := some ⟨.refused, some 0xE8000000⟩ } = none := by decide
theorem test_unlock_twice :
    (after 0xD4000000 { State.reset with bracketOpen := true }).map (·.fault) =
      some (some ⟨.lockMismatch, some 0xD4000000⟩) := by decide
theorem test_lock_without_unlock :
    (after 0xD8000000 State.reset).map (·.fault) = some (some ⟨.lockMismatch, some 0xD8000000⟩) := by decide
theorem test_forcebank_in_bracket :
    ((after 0xD0000002 { State.reset with bracketOpen := true }).map fun t => (t.fault, t.regs.currentBank)) =
      some (some ⟨.lockMismatch, some 0xD0000002⟩, 5) := by decide
theorem test_setlock_in_bracket :
    (after 0xDC000001 { State.reset with bracketOpen := true }).map (·.fault) =
      some (some ⟨.lockMismatch, some 0xDC000001⟩) := by decide
theorem test_end_of_run_in_bracket :
    (match step { State.reset with bracketOpen := true } with | .next t => t.fault | _ => none) =
      some ⟨.lockMismatch, none⟩ := by decide

/-! ### Witnesses: for every statement with hypotheses, values that meet all of them -/

theorem witness_DecodeOfEncodeIsIdentity :
    (Instr.romrd 0xFFC).wf = true ∧ (Instr.wign 0x027 0x09).wf = true ∧ (Instr.tick 1 2 3 true).wf = true := by decide

theorem witness_EncodeOfDecodeRestoresTheWord :
    decode 0x400FF6AA = .ok (.hotspot0 .write) ∧ decode 0x40005503 = .ok (.waveform 1 0x03) := ⟨rfl, rfl⟩

/-- Two rows match 0x40005700: 22 (`WIGN`) and 23 (`WAVEFORM`). -/
theorem witness_DecodingIsFirstMatchOfTheTable :
    ∃ r q, opcodeTable[22]? = some r ∧ opcodeTable[23]? = some q ∧ r.hits 0x40005700 = true ∧
      q.hits 0x40005700 = true := ⟨_, _, rfl, rfl, by decide, by decide⟩

theorem witness_StepRunsTheDecodedTransaction_decoded :
    (State.reset.withFetchWord 32 0x00000100).fault = none ∧
    (State.reset.withFetchWord 32 0x00000100).pending = [0x00000100] ∧ decode 0x00000100 = .ok (.random 1) :=
  ⟨rfl, rfl, rfl⟩

theorem witness_StepRunsTheDecodedTransaction_refused :
    (State.reset.withFetchWord 32 0xE8000000).fault = none ∧
    (State.reset.withFetchWord 32 0xE8000000).pending = [0xE8000000] ∧
    decode 0xE8000000 = .error .debugReservedOp := ⟨rfl, rfl, rfl⟩

theorem witness_StepRunsTheDecodedTransaction_faulted :
    ({ State.reset with pending := [0], fault := some ⟨.lockMismatch, none⟩ } : State).pending = [0] ∧
    ({ State.reset with pending := [0], fault := some ⟨.lockMismatch, none⟩ } : State).fault =
      some ⟨.lockMismatch, none⟩ := ⟨rfl, rfl⟩

theorem witness_FaultedBlockIsStuck :
    ({ State.reset with fault := some ⟨.refused, some 0xE8000000⟩ } : State).fault =
      some ⟨.refused, some 0xE8000000⟩ := rfl

theorem witness_EndOfTheRun_balanced :
    State.reset.fault = none ∧ State.reset.pending = [] ∧ State.reset.bracketOpen = false := ⟨rfl, rfl, rfl⟩

/-- A state whose bracket is open, one `DBG.UNLOCK` after construction. -/
def inBracket : State := State.reset.openBracket

theorem witness_EndOfTheRun_open :
    inBracket.fault = none ∧ inBracket.pending = [] ∧ inBracket.bracketOpen = true := ⟨rfl, rfl, rfl⟩

theorem witness_EveryWaitingWordIsTaken :
    (State.reset.withFetchWord 32 0xD8000000).fault = none ∧
    (State.reset.withFetchWord 32 0xD8000000).pending = 0xD8000000 :: [] := ⟨rfl, rfl⟩

theorem witness_RunPerformsEveryWordOrStopsAtAFault :
    ({ State.reset with pending := [0x80000001, 0xD8000000, 0x00000000] } : State).fault = none := rfl

theorem witness_EveryStepKeepsTheInvariant :
    (State.reset.withFetchWord 32 0x40005899).Inv ∧
    ∃ t, step (State.reset.withFetchWord 32 0x40005899) = .next t :=
  ⟨⟨rfl, rfl, (fun h => (nomatch h)), fun _ => rfl, (fun _ h => (nomatch h))⟩, _, rfl⟩

theorem witness_ConstructionMeetsTheInvariant :
    Memory.wf ramSize [(0x000, 0xFF), (0x1004, 0x08), (0x13FF, 0x12)] = true := by decide

theorem witness_FaultsOnlyFromTheirCauses :
    State.reset.fault = none ∧ breaksBracket .dbgLock State.reset = true ∧
    ∃ t, exec .dbgLock State.reset = .next t ∧ t.fault ≠ none := ⟨rfl, rfl, _, rfl, by decide⟩

theorem witness_RejectedRequestsChangeNothing_read :
    ∃ t, exec (.dbgReadram 5119 2) State.reset = .next t ∧ t.result = .rejected .ramBounds 5119 2 := ⟨_, rfl, rfl⟩

theorem witness_RejectedRequestsChangeNothing_write :
    ∃ t, exec (.dbgWriteram 5120 1) State.reset = .next t ∧ t.result = .rejected .ramBounds 5120 1 := ⟨_, rfl, rfl⟩

theorem witness_ProgramCannotReachTheDebugPort :
    portOf (.dflow 0 0x10) ≠ .debug ∧ ∃ t, exec (.dflow 0 0x10) State.reset = .next t := ⟨by decide, _, rfl⟩

theorem witness_DebugCommandsLeaveTheRegisterFile :
    portOf (.dbgWriteram 5119 1) = .debug ∧ ∃ t, exec (.dbgWriteram 5119 1) State.reset = .next t ∧
      t.regs.get (.displayImage 5119) ≠ State.reset.regs.get (.displayImage 5119) := ⟨rfl, _, rfl, by decide⟩

theorem witness_SideEffectsOfBusAccesses :
    portOf (.dfdata 3) = .busRead ∧ hotspotBank (.dfdata 3) = none ∧ portOf (.note 2 0xFF) = .busWrite ∧
    portOf (.hotspot3 .write) = .busWrite := ⟨rfl, rfl, rfl, rfl⟩

theorem witness_CurrentBankChangesOnlyBySwitch_hotspot :
    ∃ t, exec (.hotspot2 .read) State.reset = .next t ∧ t.regs.currentBank ≠ State.reset.regs.currentBank :=
  ⟨_, rfl, by decide⟩

theorem witness_CurrentBankChangesOnlyBySwitch_forced :
    ∃ t, exec (.dbgForcebank 0) { State.reset with bankLocked := true } = .next t ∧
      t.regs.currentBank ≠ State.reset.regs.currentBank := ⟨_, rfl, by decide⟩

theorem witness_ConfigurationNeverChanges :
    ∃ t, core.run 1 (State.reset.withFetchWord 32 0x40004810) = .next t := ⟨_, rfl⟩

theorem witness_OnlyNamedElementsChange :
    ∃ t, exec (.dftop 3 0x20) State.reset = .next t ∧ ¬ mayWrite (.dftop 3 0x20) State.reset (.tops 2) :=
  ⟨_, rfl, by simp [mayWrite]⟩

/-- Two states that agree on what the program sees and differ in everything the statement leaves free. -/
theorem witness_ProgramCannotObserveTheDebugPort :
    portOf (.hotspot0 .read) ≠ .debug ∧ State.reset.cfg = inBracket.takeSnapshot.cfg ∧
    State.reset.regs = inBracket.takeSnapshot.regs ∧ State.reset.bankLocked = inBracket.takeSnapshot.bankLocked ∧
    State.reset.snapTaken ≠ inBracket.takeSnapshot.snapTaken ∧
    ∃ s t, exec (.hotspot0 .read) State.reset = .next s ∧ exec (.hotspot0 .read) inBracket.takeSnapshot = .next t :=
  ⟨by decide, rfl, rfl, rfl, by decide, _, _, rfl, rfl⟩

theorem witness_ModeFlagsAndParametersAreInert : portOf (.param 7 0x42) ≠ .debug := by decide

theorem witness_WindowBoundsAreInertUnderMod256 :
    State.reset.cfg.fetchWrap = .mod256 ∧ portOf (.tick 0xFF 0xFF 7 true) ≠ .debug := ⟨rfl, by decide⟩

/-- A state under `WINDOW` whose fetcher 0 has the window 2..5 and stands at `c`. -/
def windowed (c : Byte) : State := windowBlock.mapRegs fun r => ((r.setTop 0 5).setBottom 0 2).setCounter 0 c

theorem witness_TickAdvancesFetchers :
    (0x01#8).getLsbD 0 = true ∧ (0x01#8).getLsbD 1 = false ∧ (windowed 5).cfg.fetchWrap = .window ∧
    (windowed 5).regs.counters[0] = (windowed 5).regs.tops[0] ∧
    (windowed 4).regs.counters[0] ≠ (windowed 4).regs.tops[0] ∧ State.reset.cfg.fetchWrap = .mod256 := by decide

/-- The largest sum without a carry and the smallest with one, the latter with the integer part at `tops`. -/
theorem witness_TickAdvancesAccumulators :
    0xFF = (0x05FF#16).toNat % 256 + (0x00#8).toNat ∧ 0x100 = (0x05FF#16).toNat % 256 + (0x01#8).toNat ∧
    (windowed 0).cfg.fetchWrap = .window ∧ (0x05FF#16).toNat / 256 = (windowed 0).regs.tops[0].toNat ∧
    (0x04FF#16).toNat / 256 ≠ (windowed 0).regs.tops[0].toNat := by decide

/-- The reverse order, and one that interleaves the four lines. -/
theorem witness_TickOrderIsIrrelevant :
    tickOrder.reverse.Perm tickOrder ∧ (tickOrder.drop 7 ++ tickOrder.take 7).Perm tickOrder := by decide

theorem witness_DfdataAfterDfwrite :
    State.reset.faddr 3 = State.reset.faddr 3 ∧ State.reset.faddr 2 ≠ State.reset.faddr 3 := by decide

/-- Between two advances of fetcher 5 stand a tick without its strobe, a write of its window and a debug command. -/
def mixed5 : List Instr :=
  [.tick 0x20 0x01 0 false, .tick 0xDF 0xFF 7 true, .dftop 5 0x03, .dbgSnapshot, .tick 0xFF 0 0 true]

theorem witness_FetcherCountsModulo256_mixed :
    State.reset.cfg.fetchWrap = .mod256 ∧ (∀ d, .dflow 5 d ∉ mixed5) ∧ advances (.fetcher 5) mixed5 = 2 :=
  ⟨rfl, by simp [mixed5], rfl⟩

/-- `n` equal ticks advance each unit they strobe `n` times. -/
theorem advances_replicate (u : TickUnit) (n : Nat) (i : Instr) (h : strobes u i = true) :
    advances u (List.replicate n i) = n := by simp [advances, List.countP_replicate, h]

theorem not_mem_replicate (n : Nat) {i j : Instr} (h : j ≠ i) : j ∉ List.replicate n i :=
  fun hj => h (List.eq_of_mem_replicate hj)

theorem witness_FetcherCountsModulo256_cycle :
    (∀ d, .dflow 5 d ∉ List.replicate 256 (Instr.tick 0x20 0 0 false)) ∧
    advances (.fetcher 5) (List.replicate 256 (Instr.tick 0x20 0 0 false)) = 256 :=
  ⟨fun _ => not_mem_replicate _ (by simp), advances_replicate _ _ _ rfl⟩

/-- Four advances of fetcher 0, a full cycle of the window 2..5, with another fetcher's write between them. -/
def cycle0 : List Instr :=
  [.tick 0x01 0 0 false, .tick 0xFF 0xFF 7 true, .dflow 1 0x09, .tick 0x03 0 0 false, .tick 0x01 0 0 true]

theorem witness_FetcherStaysInItsWindow :
    (windowed 2).cfg.fetchWrap = .window ∧ (∀ d, .dflow 0 d ∉ cycle0 ∧ .dftop 0 d ∉ cycle0 ∧ .dfbot 0 d ∉ cycle0) ∧
    (windowed 2).regs.bottoms[0].toNat ≤ (windowed 2).regs.counters[0].toNat ∧
    (windowed 2).regs.counters[0].toNat ≤ (windowed 2).regs.tops[0].toNat ∧
    advances (.fetcher 0) cycle0 = (windowed 2).regs.tops[0].toNat - (windowed 2).regs.bottoms[0].toNat + 1 :=
  ⟨rfl, by simp [cycle0], by decide, by decide, rfl⟩

theorem witness_FetcherEntersItsWindow :
    (windowed 6).cfg.fetchWrap = .window ∧ (windowed 6).regs.bottoms[0].toNat ≤ (windowed 6).regs.tops[0].toNat ∧
    ¬ (windowed 6).regs.counters[0].toNat ≤ (windowed 6).regs.tops[0].toNat ∧
    (∀ d, .dflow 0 d ∉ List.replicate 256 (Instr.tick 0x01 0 0 false) ∧
      .dftop 0 d ∉ List.replicate 256 (Instr.tick 0x01 0 0 false) ∧
      .dfbot 0 d ∉ List.replicate 256 (Instr.tick 0x01 0 0 false)) ∧
    advances (.fetcher 0) (List.replicate 256 (Instr.tick 0x01 0 0 false)) = 256 :=
  ⟨rfl, by decide, by decide,
    fun _ => ⟨not_mem_replicate _ (by simp), not_mem_replicate _ (by simp), not_mem_replicate _ (by simp)⟩,
    advances_replicate _ _ _ rfl⟩

/-- Two advances of accumulator 1, with a window write and another accumulator's write between them. -/
def mixedFrac1 : List Instr := [.tick 0 0x02 0 false, .dftop 1 0x03, .fracint 2 0x40, .tick 0xFF 0xFF 7 true]

theorem witness_AccumulatorWrapLaws_mixed :
    State.reset.cfg.fetchWrap = .mod256 ∧ (∀ d, .fracint 1 d ∉ mixedFrac1 ∧ .fracinc 1 d ∉ mixedFrac1) ∧
    advances (.fractional 1) mixedFrac1 = 2 := ⟨rfl, by simp [mixedFrac1], rfl⟩

theorem witness_AccumulatorWrapLaws_cycles :
    ∀ n ∈ [256, 65536], (∀ d, .fracint 1 d ∉ List.replicate n (Instr.tick 0 0x02 0 false) ∧
      .fracinc 1 d ∉ List.replicate n (Instr.tick 0 0x02 0 false)) ∧
      advances (.fractional 1) (List.replicate n (Instr.tick 0 0x02 0 false)) = n :=
  fun n _ => ⟨fun _ => ⟨not_mem_replicate n (by simp), not_mem_replicate n (by simp)⟩, advances_replicate _ n _ rfl⟩

/-- Two advances of the generator, with a tick that does not strobe it and a write between them. -/
def random2 : List Instr := [.tick 0 0 0 true, .tick 0xFF 0xFF 7 false, .dfwrite 0 0x12, .tick 0x01 0 0 true]

/-- Two sequences of unequal length, from a non-zero value and from 0. -/
theorem witness_RandomSequences :
    State.reset.regs.randomNumber = (windowed 6).regs.randomNumber ∧ State.reset.regs.randomNumber ≠ 0#32 ∧
    (State.reset.mapRegs (·.setRandom 0)).regs.randomNumber =
      ((windowed 6).mapRegs (·.setRandom 0)).regs.randomNumber ∧
    (∀ l ∈ [random2, [.tick 0 0 0 true, .tick 0 0 0 true]], .rreset ∉ l ∧ ∀ k d, .rwrite k d ∉ l) ∧
    advances .generator random2 = advances .generator [.tick 0 0 0 true, .tick 0 0 0 true] :=
  ⟨rfl, by decide, rfl, by simp [random2], rfl⟩

theorem witness_SwitchBankChecksLockThenRange :
    ({ State.reset with bankLocked := true } : State).bankLocked = true ∧ State.reset.bankLocked = false ∧
    6 ≤ 6 ∧ 5 < 6 := by decide

theorem witness_HotspotSwitchesTheBank :
    ({ State.reset with bankLocked := true } : State).bankLocked = true ∧ State.reset.bankLocked = false := ⟨rfl, rfl⟩

theorem witness_RomrdReturnsTheRomByte :
    (0x028 ≤ (0x028#12).toNat ∧ (0x028#12).toNat ≤ 0xFF5) ∧ (0x028 ≤ (0xFF5#12).toNat ∧ (0xFF5#12).toNat ≤ 0xFF5) ∧
    (0xFFC ≤ (0xFFC#12).toNat ∧ (0xFFC#12).toNat ≤ 0xFFF) ∧ (0xFFC ≤ (0xFFF#12).toNat ∧ (0xFFF#12).toNat ≤ 0xFFF) := by
  decide

theorem witness_IgnoredWritesChangeNothing :
    (0x027#12).toNat ≤ 0x027 ∧ (0x052#12).toNat = 0x052 ∧ (0x053#12).toNat = 0x053 ∧
    (0x065 ≤ (0x067#12).toNat ∧ (0x067#12).toNat ≤ 0x067) ∧ (0x074 ≤ (0x074#12).toNat ∧ (0x074#12).toNat ≤ 0xFF5) ∧
    0xFFC ≤ (0xFFC#12).toNat := by decide

/-- 95_test_vectors.md P4: after a snapshot, `DFTOP 3, 0x20` changes exactly `tops[3]`. -/
theorem witness_ReportAfterSnapshot :
    ∃ t u, exec .dbgSnapshot State.reset = .next t ∧ portOf (.dftop 3 0x20) = .busWrite ∧
      exec (.dftop 3 0x20) t = .next u ∧ u.regs.get (.tops 3) ≠ t.regs.get (.tops 3) ∧
      ∀ g, g ≠ .tops 3 → u.regs.get g = t.regs.get g := by
  refine ⟨_, _, rfl, rfl, rfl, by decide, fun g hg => ?_⟩
  simp only [State.mapRegs, ChipRegisters.get_setTop, if_neg hg]

theorem witness_RamsizeAndRamReads :
    (5119#13).toNat + (1#13).toNat ≤ 5120 ∧ 5120 < (5119#13).toNat + (2#13).toNat := by decide

theorem witness_WriteramStoresOrRejects : (5119#13).toNat < 5120 ∧ 5120 ≤ (5120#13).toNat := by decide

theorem witness_LockCommands :
    State.reset.bracketOpen = false ∧ State.reset.fault = none ∧ inBracket.bracketOpen = true ∧
    inBracket.fault = none := ⟨rfl, rfl, rfl, rfl⟩

/-- The last bank that exists and the first that does not, outside a bracket; and a bracket without a fault. -/
theorem witness_ForcebankSwitchesUnderTheLock :
    State.reset.bracketOpen = false ∧ (5#26).toNat < 6 ∧ ¬ (6#26).toNat < 6 ∧ inBracket.bracketOpen = true ∧
    inBracket.fault = none := by decide

end Sys2Proof.Machine.Tests
end

/-! PROOFS. The family of spec/10_state.md. What a transaction does, said once: a bus transaction or a tick overwrites
elements of the register file with values that depend on what the program sees alone (`exec_program`); a debug command
has one of eight effects (`exec_debug`). The statements about the state are read off these two lemmas. -/

namespace Sys2Proof.Machine

/-! ### Updates of the register file that overwrite elements -/

/-- `g` gives each element in `p` a fixed value or keeps it, keeps every element outside `p`, and keeps the canonical
form of the display RAM. -/
structure Overwrites (p : Field → Prop) (g : ChipRegisters → ChipRegisters) : Prop where
  element   : ∀ f, (∀ r, (g r).get f = r.get f) ∨ (p f ∧ ∃ v, ∀ r, (g r).get f = v)
  canonical : ∀ r, Memory.wf ramSize r.displayImage = true → Memory.wf ramSize (g r).displayImage = true

namespace Overwrites

variable {p : Field → Prop} {g h : ChipRegisters → ChipRegisters}

theorem keep : Overwrites p id := ⟨fun _ => .inl fun _ => rfl, fun _ hm => hm⟩

/-- A single-element update, as the `get_set…` lemmas of Laws/Ops.lean describe it. -/
theorem single {e : Field} {v : Nat} (hp : p e) (hg : ∀ r f, (g r).get f = if f = e then v else r.get f)
    (hm : ∀ r, (g r).displayImage = r.displayImage) : Overwrites p g where
  element f := by
    by_cases hf : f = e
    · exact .inr ⟨hf ▸ hp, v, fun r => by rw [hg, if_pos hf]⟩
    · exact .inl fun r => by rw [hg, if_neg hf]
  canonical r hr := by rwa [hm]

theorem byte {a : Nat} (v : Byte) (hp : p (.displayImage a)) (ha : a < ramSize) : Overwrites p (·.setByte a v) where
  element f := by
    by_cases hf : f = .displayImage a
    · exact .inr ⟨hf ▸ hp, v.toNat, fun r => by rw [ChipRegisters.get_setByte, if_pos hf]⟩
    · exact .inl fun r => by rw [ChipRegisters.get_setByte, if_neg hf]
  canonical r hr := Memory.wf_write r.displayImage a v ha hr

theorem comp (hh : Overwrites p h) (hg : Overwrites p g) : Overwrites p (fun r => h (g r)) where
  element f := by
    rcases hh.element f with hk | ⟨hp, v, hv⟩
    · simpa only [hk] using hg.element f
    · exact .inr ⟨hp, v, fun r => hv (g r)⟩
  canonical r hr := hh.canonical _ (hg.canonical r hr)

/-- An element outside `p` keeps its value. -/
theorem get_of_not (hg : Overwrites p g) {f : Field} (hf : ¬ p f) (r : ChipRegisters) : (g r).get f = r.get f := by
  rcases hg.element f with hk | ⟨hp, -⟩
  · exact hk r
  · exact absurd hp hf

/-- An element that two register files agree on they still agree on afterwards. -/
theorem get_congr (hg : Overwrites p g) {r r' : ChipRegisters} {f : Field} (hf : r'.get f = r.get f) :
    (g r').get f = (g r).get f := by
  rcases hg.element f with hk | ⟨-, v, hv⟩
  · rw [hk, hk, hf]
  · rw [hv, hv]

end Overwrites

/-! ### What a program transaction reads -/

/-- `t` shows a bus transaction or tick what `s` shows it. `tops` and `bottoms` are read only through `next8`
(10_state.md R21, R22); the mode flags, `parameter` (R26), the debug-port state and the bracket are not read. -/
structure SameView (s t : State) : Prop where
  cfg                  : t.cfg = s.cfg
  bankLocked           : t.bankLocked = s.bankLocked
  counters             : t.regs.counters = s.regs.counters
  fractionalCounters   : t.regs.fractionalCounters = s.regs.fractionalCounters
  fractionalIncrements : t.regs.fractionalIncrements = s.regs.fractionalIncrements
  musicCounters        : t.regs.musicCounters = s.regs.musicCounters
  musicFrequencies     : t.regs.musicFrequencies = s.regs.musicFrequencies
  musicWaveforms       : t.regs.musicWaveforms = s.regs.musicWaveforms
  randomNumber         : t.regs.randomNumber = s.regs.randomNumber
  currentBank          : t.regs.currentBank = s.regs.currentBank
  displayImage         : t.regs.displayImage = s.regs.displayImage
  next8At              : ∀ i c, t.next8At i c = s.next8At i c

namespace SameView

variable {s t : State}

theorem refl (s : State) : SameView s s := ⟨rfl, rfl, rfl, rfl, rfl, rfl, rfl, rfl, rfl, rfl, rfl, fun _ _ => rfl⟩

theorem of_eq (hc : t.cfg = s.cfg) (hr : t.regs = s.regs) (hl : t.bankLocked = s.bankLocked) : SameView s t := by
  constructor <;> simp only [hc, hr, hl, State.next8At, implies_true]

section
variable (v : SameView s t)
include v

theorem displayByte (a : Nat) : t.displayByte a = s.displayByte a := by rw [State.displayByte, v.displayImage]; rfl

theorem faddr (i : Fin numFetchers) : t.faddr i = s.faddr i := by rw [State.faddr, v.cfg, v.counters]; rfl

theorem fraddr (i : Fin numFetchers) : t.fraddr i = s.fraddr i := by
  rw [State.fraddr, v.cfg, v.fractionalCounters]; rfl

theorem romRead (n : Fin bankCount) (a : BusAddr) : t.romRead n a = s.romRead n a := by
  rw [State.romRead, v.cfg]; rfl

theorem sample (j : Fin numVoices) : t.sample j = s.sample j := by
  rw [State.sample, v.displayByte, State.waddr, State.sampleIndex, v.musicCounters, v.musicWaveforms]; rfl

theorem amplitude : t.amplitude = s.amplitude := by simp only [State.amplitude, v.sample]

theorem countersAfter (fe : BitVec 8) (xs : List (Fin numFetchers)) :
    countersAfter fe xs t = countersAfter fe xs s := by
  simp only [Machine.countersAfter, v.next8At, v.counters]

theorem fracNext (i : Fin numFetchers) : fracNext t i = fracNext s i := by
  simp only [Machine.fracNext, v.next8At, v.fractionalCounters, v.fractionalIncrements]

theorem fracCountersAfter (fr : BitVec 8) (xs : List (Fin numFetchers)) :
    fracCountersAfter fr xs t = fracCountersAfter fr xs s := by
  simp only [Machine.fracCountersAfter, v.fracNext, v.fractionalCounters]

theorem musicCountersAfter (mu : BitVec 3) (xs : List (Fin numVoices)) :
    musicCountersAfter mu xs t = musicCountersAfter mu xs s := by
  simp only [Machine.musicCountersAfter, v.musicCounters, v.musicFrequencies]

end

end SameView

/-! ### What a program transaction does -/

/-- In every state with the view of `s`, transaction `i` overwrites elements it may write with the same values, answers
the same result, and changes nothing outside the register file. -/
def ActsOnView (i : Instr) (s : State) : Prop :=
  ∃ g x, Overwrites (mayWrite i s) g ∧ ∀ t, SameView s t → exec i t = .next { t with regs := g t.regs, result := x }

theorem hotspotAccess_actsOnView (n : Fin bankCount) (rw : Access) (s : State) :
    ∃ g x, Overwrites (· = .currentBank) g ∧
      ∀ t, SameView s t → hotspotAccess n rw t = .next { t with regs := g t.regs, result := x } := by
  have hans : ∃ x, ∀ t, SameView s t → hotspotAccess n rw t = .next { (switchBank n.val t).2 with result := x } := by
    cases rw
    · exact ⟨_, fun t v => by rw [hotspotAccess, complete_eq, v.currentBank, v.romRead]⟩
    · exact ⟨_, fun t _ => rfl⟩
  obtain ⟨x, hx⟩ := hans
  cases hl : s.bankLocked
  · refine ⟨(·.setBank n), x, .single rfl (fun r f => r.get_setBank f n) fun _ => rfl, fun t v => ?_⟩
    rw [hx t v, switchBank_ok t n (v.bankLocked.trans hl)]
    rfl
  · refine ⟨id, x, .keep, fun t v => ?_⟩
    rw [hx t v, switchBank_locked t n.val (v.bankLocked.trans hl)]
    rfl

/-- The registers of `x` a tick strobes and the others of `y`. -/
def overlay {α : Type} {n w : Nat} (strobes : BitVec w) (x y : Vector α n) : Vector α n :=
  Vector.ofFn fun i => if strobes.getLsbD i.val = true then x[i] else y[i]

theorem overlay_cases {α : Type} {n w : Nat} (strobes : BitVec w) (x : Vector α n) (i : Fin n) :
    (∀ y, (overlay strobes x y)[i] = y[i]) ∨
    (strobes.getLsbD i.val = true ∧ ∀ y, (overlay strobes x y)[i] = x[i]) := by
  cases hb : strobes.getLsbD i.val
  · exact .inl fun y => by simp only [overlay, Fin.getElem_fin, Vector.getElem_ofFn, hb, Bool.false_eq_true, if_false]
  · exact .inr ⟨rfl, fun y => by simp only [overlay, Fin.getElem_fin, Vector.getElem_ofFn, hb, if_true]⟩

theorem overlay_eq {α : Type} {n w : Nat} {strobes : BitVec w} {x y : Vector α n}
    (h : ∀ i : Fin n, ¬ strobes.getLsbD i.val = true → x[i] = y[i]) : overlay strobes x y = x := by
  ext i hi
  rw [overlay, Vector.getElem_ofFn]
  split
  · rfl
  · rename_i hb
    exact (h ⟨i, hi⟩ hb).symm

/-- The update of the register file by a tick in the view of `s`: each strobed unit takes its advanced value
(40_transactions.md R104). -/
def tickUpdate (fe fr : BitVec 8) (mu : BitVec 3) (rn : Bool) (s : State) (r : ChipRegisters) : ChipRegisters :=
  { r with
    counters := overlay fe (countersAfter fe fetcherList s) r.counters
    fractionalCounters := overlay fr (fracCountersAfter fr fetcherList s) r.fractionalCounters
    musicCounters := overlay mu (musicCountersAfter mu voiceList s) r.musicCounters
    randomNumber := if rn then lfsrStep s.regs.randomNumber else r.randomNumber }

theorem tickedRegs_eq_tickUpdate {s t : State} (v : SameView s t) (fe fr : BitVec 8) (mu : BitVec 3) (rn : Bool) :
    tickedRegs fe fr mu rn t = tickUpdate fe fr mu rn s t.regs := by
  have hc : overlay fe (countersAfter fe fetcherList t) t.regs.counters = countersAfter fe fetcherList t :=
    overlay_eq fun i hi => by
      rw [countersAfter, Fin.getElem_fin, Vector.getElem_ofFn, if_neg fun h => hi h.2]
  have hf : overlay fr (fracCountersAfter fr fetcherList t) t.regs.fractionalCounters =
      fracCountersAfter fr fetcherList t := overlay_eq fun i hi => by
      rw [fracCountersAfter, Fin.getElem_fin, Vector.getElem_ofFn, if_neg fun h => hi h.2]
  have hm : overlay mu (musicCountersAfter mu voiceList t) t.regs.musicCounters =
      musicCountersAfter mu voiceList t := overlay_eq fun i hi => by
      rw [musicCountersAfter, Fin.getElem_fin, Vector.getElem_ofFn, if_neg fun h => hi h.2]
  rw [tickUpdate, ← v.countersAfter, ← v.fracCountersAfter, ← v.musicCountersAfter, ← v.randomNumber, hc, hf, hm]
  rfl

theorem tickUpdate_overwrites (fe fr : BitVec 8) (mu : BitVec 3) (rn : Bool) (s : State) :
    Overwrites (mayWrite (.tick fe fr mu rn) s) (tickUpdate fe fr mu rn s) where
  element f := by
    cases f with
    | counters i =>
      rcases overlay_cases fe (countersAfter fe fetcherList s) i with h | ⟨hb, h⟩
      · exact .inl fun r => congrArg BitVec.toNat (h r.counters)
      · exact .inr ⟨.inl ⟨i, hb, rfl⟩, _, fun r => congrArg BitVec.toNat (h r.counters)⟩
    | fractionalCounters i =>
      rcases overlay_cases fr (fracCountersAfter fr fetcherList s) i with h | ⟨hb, h⟩
      · exact .inl fun r => congrArg BitVec.toNat (h r.fractionalCounters)
      · exact .inr ⟨.inr (.inl ⟨i, hb, rfl⟩), _, fun r => congrArg BitVec.toNat (h r.fractionalCounters)⟩
    | musicCounters j =>
      rcases overlay_cases mu (musicCountersAfter mu voiceList s) j with h | ⟨hb, h⟩
      · exact .inl fun r => congrArg BitVec.toNat (h r.musicCounters)
      · exact .inr ⟨.inr (.inr (.inl ⟨j, hb, rfl⟩)), _, fun r => congrArg BitVec.toNat (h r.musicCounters)⟩
    | randomNumber =>
      cases rn
      · exact .inl fun r => rfl
      · exact .inr ⟨.inr (.inr (.inr ⟨rfl, rfl⟩)), (lfsrStep s.regs.randomNumber).toNat, fun r => rfl⟩
    | tops _ | bottoms _ | fractionalIncrements _ | parameter _ | musicFrequencies _ | musicWaveforms _
    | currentBank | fastFetch | immediateLDA | displayImage _ => exact .inl fun r => rfl
  canonical r hr := hr

/-- Every bus transaction and every tick acts on the view alone (10_state.md R40, 60_exceptions.md R270). -/
theorem exec_program (i : Instr) (s : State) (hp : portOf i ≠ .debug) : ActsOnView i s := by
  cases i with
  | rdrsv005 | rdrsv006 _ | rdrsv018 _ | rdrsv020 _ | wign057 _ | wign073 _ | wign _ _ =>
    exact ⟨id, _, .keep, fun t _ => rfl⟩
  | random k => exact ⟨id, .byte (laneGet s.regs.randomNumber k), .keep, fun t v => by rw [← v.randomNumber]; rfl⟩
  | amplitude => exact ⟨id, .byte (BitVec.ofNat 8 s.amplitude), .keep, fun t v => by rw [← v.amplitude]; rfl⟩
  | dfdata i =>
    exact ⟨id, .byte (s.displayByte (s.faddr i)), .keep, fun t v => by rw [← v.faddr, ← v.displayByte]; rfl⟩
  | dffrac i =>
    exact ⟨id, .byte (s.displayByte (s.fraddr i)), .keep, fun t v => by rw [← v.fraddr, ← v.displayByte]; rfl⟩
  | romrd a =>
    exact ⟨id, .byte (s.romRead s.regs.currentBank a), .keep, fun t v => by rw [← v.romRead, ← v.currentBank]; rfl⟩
  | hotspot0 rw => exact hotspotAccess_actsOnView 0 rw s
  | hotspot1 rw => exact hotspotAccess_actsOnView 1 rw s
  | hotspot2 rw => exact hotspotAccess_actsOnView 2 rw s
  | hotspot3 rw => exact hotspotAccess_actsOnView 3 rw s
  | hotspot4 rw => exact hotspotAccess_actsOnView 4 rw s
  | hotspot5 rw => exact hotspotAccess_actsOnView 5 rw s
  | fracint i d =>
    exact ⟨_, .nothing, .single rfl (fun r f => r.get_setFracCounter f i (d ++ 0#8)) fun _ => rfl, fun t _ => rfl⟩
  | fracinc i d =>
    exact ⟨_, .nothing,
      .comp (h := (·.setFracCounter i (integerOf s.regs.fractionalCounters[i] ++ 0#8)))
        (.single (.inr rfl) (fun r f => r.get_setFracCounter f i _) fun _ => rfl)
        (.single (.inl rfl) (fun r f => r.get_setFracIncrement f i d) fun _ => rfl),
      fun t v => by rw [← v.fractionalCounters]; rfl⟩
  | dftop i d => exact ⟨_, .nothing, .single rfl (fun r f => r.get_setTop f i d) fun _ => rfl, fun t _ => rfl⟩
  | dfbot i d => exact ⟨_, .nothing, .single rfl (fun r f => r.get_setBottom f i d) fun _ => rfl, fun t _ => rfl⟩
  | dflow i d => exact ⟨_, .nothing, .single rfl (fun r f => r.get_setCounter f i d) fun _ => rfl, fun t _ => rfl⟩
  | fastfetch d =>
    exact ⟨_, .nothing, .single rfl (fun r f => r.get_setFastFetch f (modeFlag d)) fun _ => rfl, fun t _ => rfl⟩
  | immlda d =>
    exact ⟨_, .nothing, .single rfl (fun r f => r.get_setImmediateLDA f (modeFlag d)) fun _ => rfl, fun t _ => rfl⟩
  | waveform j d =>
    exact ⟨_, .nothing, .single rfl (fun r f => r.get_setMusicWaveform f j (d.extractLsb' 0 4)) fun _ => rfl,
      fun t _ => rfl⟩
  | dfwrite i d =>
    exact ⟨_, .nothing, .byte d rfl (faddr_lt s i), fun t v => by rw [← v.faddr]; rfl⟩
  | rwrite k d =>
    exact ⟨_, .nothing, .single rfl (fun r f => r.get_setRandom f (laneSet s.regs.randomNumber k d)) fun _ => rfl,
      fun t v => by rw [← v.randomNumber]; rfl⟩
  | rreset => exact ⟨_, .nothing, .single rfl (fun r f => r.get_setRandom f rngSeed) fun _ => rfl, fun t _ => rfl⟩
  | param i d => exact ⟨_, .nothing, .single rfl (fun r f => r.get_setParameter f i d) fun _ => rfl, fun t _ => rfl⟩
  | note j d =>
    exact ⟨_, .nothing, .single rfl (fun r f => r.get_setMusicFrequency f j
        (BitVec.ofNat 32 (Memory.readLE s.regs.displayImage (noteAddr d) 4))) fun _ => rfl,
      fun t v => by rw [← v.displayImage]; rfl⟩
  | tick fe fr mu rn =>
    exact ⟨_, .nothing, tickUpdate_overwrites fe fr mu rn s, fun t v => by
      rw [exec_tick, tickedRegs_eq_tickUpdate v]⟩
  | dbgSnapshot | dbgReadram _ _ | dbgCurrentram _ _ | dbgWriteram _ _ | dbgForcebank _ | dbgUnlock | dbgLock
  | dbgSetlock _ | dbgReport | dbgRamsize => exact absurd rfl hp

/-! ### The states a program transaction leads to -/

variable {i : Instr} {s t : State}

theorem exec_program_frame (hp : portOf i ≠ .debug) (h : exec i s = .next t) :
    ∃ g x, Overwrites (mayWrite i s) g ∧ t = { s with regs := g s.regs, result := x } := by
  obtain ⟨g, x, hg, hx⟩ := exec_program i s hp
  rw [hx s (.refl s)] at h
  cases h
  exact ⟨g, x, hg, rfl⟩

/-! ### What a debug command does -/

/-- The effects of the debug commands (47_debug_port.md R231 to R241; 60_exceptions.md R263, R264). -/
inductive DebugEffect (s : State) : Instr → State → Prop
  /-- nothing but a result: the reads, a rejected request, a forced switch to a bank that does not exist -/
  | answers {i : Instr} (x : Result) (h : breaksBracket i s = false) : DebugEffect s i { s with result := x }
  | snapshot : DebugEffect s .dbgSnapshot { s.takeSnapshot with result := .nothing }
  | writes (a : BitVec 13) (d : Byte) (h : a.toNat < ramSize) :
    DebugEffect s (.dbgWriteram a d) { s.mapRegs (·.setByte a.toNat d) with result := .nothing }
  | forces (n : BitVec 26) (h : n.toNat < bankCount) (hb : s.bracketOpen = false) :
    DebugEffect s (.dbgForcebank n) { s.mapRegs (·.setBank ⟨n.toNat, h⟩) with result := .nothing }
  | unlocks (hb : s.bracketOpen = false) : DebugEffect s .dbgUnlock { s.openBracket with result := .nothing }
  | locks (hb : s.bracketOpen = true) : DebugEffect s .dbgLock { s.closeBracket with result := .nothing }
  | setsLock (b : Bool) (hb : s.bracketOpen = false) :
    DebugEffect s (.dbgSetlock b) { s.setBankLocked b with result := .nothing }
  | breaks {i : Instr} (h : breaksBracket i s = true) :
    DebugEffect s i { s with fault := some ⟨.lockMismatch, some (encode i)⟩, result := .nothing }

/-- A command that breaks the bracket records `LOCK_MISMATCH` with its word (60_exceptions.md R264). -/
theorem exec_of_breaksBracket (h : breaksBracket i s = true) :
    exec i s = .next { s with fault := some ⟨.lockMismatch, some (encode i)⟩, result := .nothing } := by
  cases i with
  | dbgUnlock | dbgSetlock b | dbgForcebank n => exact if_pos h
  | dbgLock => exact if_neg (by simpa [breaksBracket] using h)
  | _ => cases h

theorem portOf_of_breaksBracket (h : breaksBracket i s = true) : portOf i = .debug := by
  cases i with
  | dbgUnlock | dbgSetlock _ | dbgForcebank _ | dbgLock => rfl
  | _ => cases h

theorem accessPort_ne_debug (rw : Access) : accessPort rw ≠ .debug := by cases rw <;> decide

/-- Outside a bracket `DBG.FORCEBANK` runs `switchBank` with the lock suspended (47_debug_port.md R240). -/
theorem exec_dbgForcebank (n : BitVec 26) (hb : s.bracketOpen = false) :
    exec (.dbgForcebank n) s =
      .next { (switchBank n.toNat (s.setBankLocked false)).2.setBankLocked s.bankLocked with result := .nothing } :=
  if_neg (by simp [hb])

theorem exec_dbgForcebank_exists (n : BitVec 26) (hn : n.toNat < bankCount) (hb : s.bracketOpen = false) :
    exec (.dbgForcebank n) s = .next { s.mapRegs (·.setBank ⟨n.toNat, hn⟩) with result := .nothing } := by
  rw [exec_dbgForcebank n hb, switchBank_ok _ ⟨n.toNat, hn⟩ rfl]
  rfl

theorem exec_dbgForcebank_missing (n : BitVec 26) (hn : bankCount ≤ n.toNat) (hb : s.bracketOpen = false) :
    exec (.dbgForcebank n) s = .next { s with result := .nothing } := by
  rw [exec_dbgForcebank n hb, switchBank_invalid _ _ rfl hn]
  rfl

theorem readRange_answers (ram : Memory) (start count : BitVec 13) (s : State) :
    ∃ x, readRange ram start count s = .next { s with result := x } := by
  unfold readRange
  split <;> exact ⟨_, rfl⟩

/-- Every debug command completes, with one of the effects. -/
theorem exec_debug (hp : portOf i = .debug) (s : State) : ∃ t, exec i s = .next t ∧ DebugEffect s i t := by
  cases hb : breaksBracket i s with
  | true => exact ⟨_, exec_of_breaksBracket hb, .breaks hb⟩
  | false =>
    cases i with
    | dbgSnapshot => exact ⟨_, rfl, .snapshot⟩
    | dbgReadram start count =>
      obtain ⟨x, hx⟩ := readRange_answers s.snapshot.displayImage start count s
      exact ⟨_, hx, .answers x rfl⟩
    | dbgCurrentram start count =>
      obtain ⟨x, hx⟩ := readRange_answers s.regs.displayImage start count s
      exact ⟨_, hx, .answers x rfl⟩
    | dbgWriteram a d =>
      by_cases h : ramSize ≤ a.toNat
      · exact ⟨_, if_pos h, .answers _ rfl⟩
      · exact ⟨_, if_neg h, .writes a d (Nat.lt_of_not_le h)⟩
    | dbgForcebank n =>
      by_cases h : n.toNat < bankCount
      · exact ⟨_, exec_dbgForcebank_exists n h hb, .forces n h hb⟩
      · exact ⟨_, exec_dbgForcebank_missing n (Nat.le_of_not_lt h) hb, .answers _ hb⟩
    | dbgUnlock => exact ⟨_, if_neg (by simpa [breaksBracket] using hb), .unlocks hb⟩
    | dbgLock =>
      have ho : s.bracketOpen = true := by simpa [breaksBracket] using hb
      exact ⟨_, if_pos ho, .locks ho⟩
    | dbgSetlock b => exact ⟨_, if_neg (by simpa [breaksBracket] using hb), .setsLock b hb⟩
    | dbgReport => exact ⟨_, rfl, .answers _ rfl⟩
    | dbgRamsize => exact ⟨_, rfl, .answers _ rfl⟩
    | hotspot0 rw | hotspot1 rw | hotspot2 rw | hotspot3 rw | hotspot4 rw | hotspot5 rw =>
      exact absurd hp (accessPort_ne_debug rw)
    | _ => cases hp

theorem exec_debug_effect (hp : portOf i = .debug) (h : exec i s = .next t) : DebugEffect s i t := by
  obtain ⟨u, hu, he⟩ := exec_debug hp s
  rw [hu] at h
  cases h
  exact he

/-- The states that a transaction can lead to: those of a program transaction or of a debug effect. -/
theorem exec_cases (h : exec i s = .next t) :
    (portOf i ≠ .debug ∧ ∃ g x, Overwrites (mayWrite i s) g ∧ t = { s with regs := g s.regs, result := x }) ∨
    (portOf i = .debug ∧ DebugEffect s i t) := by
  by_cases hp : portOf i = .debug
  · exact .inr ⟨hp, exec_debug_effect hp h⟩
  · exact .inl ⟨hp, exec_program_frame hp h⟩

/-! ### Lock commands and their words -/

theorem forcebank_word (n : BitVec 26) : BitVec.ofNat 32 (0xD0000000 + n.toNat) = encode (.dbgForcebank n) :=
  ofNat_debugWord 4#4 n _ rfl

theorem decode_encode_dbgForcebank (n : BitVec 26) : decode (encode (.dbgForcebank n)) = .ok (.dbgForcebank n) :=
  decode_debugWord 4#4 n

theorem decode_encode_dbgSetlock (b : Bool) : decode (encode (.dbgSetlock b)) = .ok (.dbgSetlock b) := by
  cases b <;> rfl

theorem setlock_word (b : Bool) : BitVec.ofNat 32 (0xDC000000 + b.toNat) = encode (.dbgSetlock b) := by
  cases b <;> rfl

/-! ### The invariant -/

theorem State.Inv.withRegs (hs : s.Inv) {r : ChipRegisters} (hr : Memory.wf ramSize r.displayImage = true)
    (x : Result) : ({ s with regs := r, result := x } : State).Inv := { hs with displayCanonical := hr }

theorem State.Inv.withFault (hs : s.Inv) {r : FaultRecord} (hr : r.Justified) :
    ({ s with fault := some r, result := .nothing } : State).Inv where
  __ := hs
  faultJustified := by
    rintro _ ⟨⟩
    exact hr

theorem State.Inv.withPending (hs : s.Inv) (p : List Word) : ({ s with pending := p } : State).Inv := { hs with }

/-- The word a broken bracket records is the word of a lock command (60_exceptions.md R261). -/
theorem justified_of_breaksBracket (h : breaksBracket i s = true) :
    (⟨.lockMismatch, some (encode i)⟩ : FaultRecord).Justified := by
  cases i with
  | dbgUnlock => exact .inl rfl
  | dbgLock => exact .inr (.inl rfl)
  | dbgSetlock b => exact .inr (.inr (.inl ⟨b, decode_encode_dbgSetlock b⟩))
  | dbgForcebank n => exact .inr (.inr (.inr ⟨n, decode_encode_dbgForcebank n⟩))
  | _ => cases h

theorem DebugEffect.keeps_inv (he : DebugEffect s i t) (hs : s.Inv) : t.Inv := by
  cases he with
  | answers x _ => exact { hs with }
  | snapshot => exact { hs with snapshotCanonical := hs.displayCanonical, snapshotZero := fun h => nomatch h }
  | writes a d h => exact hs.withRegs (Memory.wf_write s.regs.displayImage a.toNat d h hs.displayCanonical) _
  | forces n h _ => exact hs.withRegs (r := s.regs.setBank ⟨n.toNat, h⟩) hs.displayCanonical _
  | unlocks _ => exact { hs with bracketUnlocked := fun _ => rfl }
  | locks _ => exact { hs with bracketUnlocked := fun h => nomatch h }
  | setsLock b hb => exact { hs with bracketUnlocked := fun h => absurd (hb.symm.trans h) Bool.false_ne_true }
  | breaks h => exact hs.withFault (justified_of_breaksBracket h)

theorem exec_keeps_inv (hs : s.Inv) (h : exec i s = .next t) : t.Inv := by
  rcases exec_cases h with ⟨-, g, x, hg, rfl⟩ | ⟨-, he⟩
  · exact hs.withRegs (hg.canonical s.regs hs.displayCanonical) x
  · exact he.keeps_inv hs

/-- Settles O11, from what each step can do: the end of the run, a performed word, a refused word. -/
theorem everyStepKeepsTheInvariant : Obligations.EveryStepKeepsTheInvariant := by
  intro s t hs h
  obtain ⟨-, ⟨-, -, rfl⟩ | ⟨w, p, i, -, -, he⟩ | ⟨w, p, e, -, hd, rfl⟩⟩ := step_cases h
  · exact hs.withFault trivial
  · exact exec_keeps_inv (hs.withPending p) he
  · exact (hs.withPending p).withFault ⟨e, hd⟩

/-- Settles O12: the display RAM is `RAM_INIT`, the snapshot the zero register file, lock and fault are clear. -/
theorem constructionMeetsTheInvariant : Obligations.ConstructionMeetsTheInvariant := by
  have hc (cfg : Config) (h : Memory.wf ramSize cfg.ramInit = true) : (State.construct cfg).Inv :=
    ⟨h, rfl, (fun hb => nomatch hb), fun _ => rfl, (fun _ hf => nomatch hf)⟩
  exact ⟨hc, hc _ rfl⟩

/-! ### Faults and the bracket -/

/-- Settles O14: a program transaction keeps the fault, and of the debug effects only `breaks` records one. -/
theorem faultsOnlyFromTheirCauses : Obligations.FaultsOnlyFromTheirCauses := by
  intro i s t hf h
  cases hb : breaksBracket i s with
  | true =>
    rw [exec_of_breaksBracket hb] at h
    cases h
    simp
  | false =>
    have ht : t.fault = none := by
      rcases exec_cases h with ⟨-, g, x, -, rfl⟩ | ⟨-, he⟩
      · exact hf
      · cases he with
        | breaks hb' => exact absurd (hb.symm.trans hb') Bool.false_ne_true
        | _ => exact hf
    simp [ht]

/-- Settles O59: each command tests `bracketOpen` first. -/
theorem lockCommands : Obligations.LockCommands := by
  intro b s
  rw [setlock_word]
  refine ⟨decode_encode_dbgSetlock b, rfl, rfl, fun hb => ?_, fun hb => ?_⟩
  · have hn : ¬ s.bracketOpen = true := by simp [hb]
    exact ⟨if_neg hn, if_neg hn, fun _ => exec_of_breaksBracket (i := .dbgLock) (by simp [breaksBracket, hb])⟩
  · exact ⟨fun _ => exec_of_breaksBracket hb, fun _ => exec_of_breaksBracket (i := .dbgUnlock) hb, if_pos hb⟩

/-- Settles O60: the forced switch keeps the lock and misses only a bank that does not exist. -/
theorem forcebankSwitchesUnderTheLock : Obligations.ForcebankSwitchesUnderTheLock := by
  intro n s
  rw [forcebank_word]
  refine ⟨decode_encode_dbgForcebank n, fun hb => ?_, fun hb _ => exec_of_breaksBracket hb⟩
  by_cases hn : n.toNat < 6
  · refine ⟨_, exec_dbgForcebank_exists n hn hb, rfl, (if_pos hn).symm, ?_⟩
    exact mapRegs_changesOnly s .currentBank _ _ fun f hf => by rw [ChipRegisters.get_setBank, if_neg hf]
  · refine ⟨_, exec_dbgForcebank_missing n (Nat.le_of_not_lt hn) hb, rfl, (if_neg hn).symm, ?_⟩
    exact ⟨fun _ _ => rfl, rfl, rfl, rfl, rfl, rfl, rfl, rfl, rfl⟩

/-! ### What a transaction may change -/

/-- Settles O16: a program transaction leads to a state that differs in registers and result alone. -/
theorem programCannotReachTheDebugPort : Obligations.ProgramCannotReachTheDebugPort := by
  intro i s t hp h
  obtain ⟨g, x, -, rfl⟩ := exec_program_frame hp h
  exact ⟨rfl, rfl, rfl, rfl, rfl, rfl, rfl, rfl⟩

/-- Settles O21: of the debug effects only `writes` and `forces` touch the register file, one element each. -/
theorem onlyNamedElementsChange : Obligations.OnlyNamedElementsChange := by
  intro i s t h f hf
  rcases exec_cases h with ⟨-, g, x, hg, rfl⟩ | ⟨-, he⟩
  · exact hg.get_of_not hf s.regs
  · cases he with
    | writes a d _ => exact (ChipRegisters.get_setByte s.regs f a.toNat d).trans (if_neg hf)
    | forces n hn _ => exact (ChipRegisters.get_setBank s.regs f ⟨n.toNat, hn⟩).trans (if_neg hf)
    | _ => rfl

/-- Only hotspots and `DBG.FORCEBANK` may write `currentBank` (10_state.md R40). -/
theorem mayWrite_currentBank (h : mayWrite i s .currentBank) :
    (∃ n rw, i = hotspotOf n rw) ∨ ∃ n, i = .dbgForcebank n := by
  cases i with
  | hotspot0 rw => exact .inl ⟨0, rw, rfl⟩
  | hotspot1 rw => exact .inl ⟨1, rw, rfl⟩
  | hotspot2 rw => exact .inl ⟨2, rw, rfl⟩
  | hotspot3 rw => exact .inl ⟨3, rw, rfl⟩
  | hotspot4 rw => exact .inl ⟨4, rw, rfl⟩
  | hotspot5 rw => exact .inl ⟨5, rw, rfl⟩
  | dbgForcebank n => exact .inr ⟨n, rfl⟩
  | _ => simp [mayWrite] at h

theorem hotspotBank_hotspotOf (n : Fin bankCount) (rw : Access) : hotspotBank (hotspotOf n rw) = some n := by
  fin_cases n <;> rfl

/-- Settles O19: by O21 the transaction is a hotspot or `DBG.FORCEBANK`, and `switchBank` does the rest. -/
theorem currentBankChangesOnlyBySwitch : Obligations.CurrentBankChangesOnlyBySwitch := by
  intro i s t h hne
  have hw : mayWrite i s .currentBank := by
    by_contra hw
    exact hne (Fin.ext (onlyNamedElementsChange i s t h .currentBank hw))
  rcases mayWrite_currentBank hw with ⟨n, rw, rfl⟩ | ⟨n, rfl⟩
  · obtain ⟨x, hx⟩ := hotspotAccess_next s n rw
    rw [exec_hotspotOf, hx] at h
    cases h
    rcases switchBank_cases s n.val with hs | ⟨_, hl, hs⟩
    · exact absurd (by rw [hs]) hne
    · exact .inl ⟨by rw [hotspotBank_hotspotOf, hs]; rfl, hl⟩
  · cases exec_debug_effect rfl h with
    | forces n hn hb => exact .inr ⟨n, rfl, hb, rfl⟩
    | answers _ _ | breaks _ => exact absurd rfl hne

theorem exec_keeps_cfg (h : exec i s = .next t) : t.cfg = s.cfg := by
  rcases exec_cases h with ⟨-, g, x, -, rfl⟩ | ⟨-, he⟩
  · rfl
  · cases he <;> rfl

theorem step_keeps_cfg (h : step s = .next t) : t.cfg = s.cfg := by
  obtain ⟨-, ⟨-, -, rfl⟩ | ⟨w, p, i, -, -, he⟩ | ⟨w, p, e, -, -, rfl⟩⟩ := step_cases h
  · rfl
  · exact exec_keeps_cfg (s := { s with pending := p }) he
  · rfl

/-- Settles O20, by induction on the number of steps. -/
theorem configurationNeverChanges : Obligations.ConfigurationNeverChanges := by
  intro k
  induction k with
  | zero =>
    intro s t h
    cases h
    rfl
  | succ k ih =>
    intro s t h
    obtain ⟨u, hu, hr⟩ := run_succ_cases h
    exact (ih u t hr).trans (step_keeps_cfg hu)

/-! ### What a program transaction can observe -/

/-- Two states with the same view: the same result, and elements that were equal stay equal. -/
theorem exec_congr (hp : portOf i ≠ .debug) (v : SameView s t) :
    ∃ s' t', exec i s = .next s' ∧ exec i t = .next t' ∧ t'.result = s'.result ∧
      ∀ f, t.regs.get f = s.regs.get f → t'.regs.get f = s'.regs.get f := by
  obtain ⟨g, x, hg, hx⟩ := exec_program i s hp
  exact ⟨_, _, hx s (.refl s), hx t v, rfl, fun f hf => hg.get_congr hf⟩

/-- Settles O22: the two states have the same view, so both get the same update and the same result. -/
theorem programCannotObserveTheDebugPort : Obligations.ProgramCannotObserveTheDebugPort := by
  intro i s t s' t' hp hc hr hl hs ht
  obtain ⟨g, x, -, hx⟩ := exec_program i s hp
  rw [hx s (.refl s)] at hs
  rw [hx t (.of_eq hc.symm hr.symm hl.symm)] at ht
  cases hs
  cases ht
  exact ⟨congrArg g hr, rfl⟩

/-- Settles O23: the view does not show the mode flags or `parameter`. -/
theorem modeFlagsAndParametersAreInert : Obligations.ModeFlagsAndParametersAreInert := by
  intro i s b c q hp
  have v : SameView s { s with regs := { s.regs with fastFetch := b, immediateLDA := c, parameter := q } } :=
    { SameView.refl s with }
  obtain ⟨s', t', hs, ht, hr, hf⟩ := exec_congr hp v
  refine ⟨s', t', hs, ht, hr, fun f h₁ h₂ h₃ => hf f ?_⟩
  cases f with
  | fastFetch => exact absurd rfl h₁
  | immediateLDA => exact absurd rfl h₂
  | parameter j => exact absurd rfl (h₃ j)
  | _ => rfl

/-- Settles O24: under `MOD256` the successor `next8` does not depend on the window. -/
theorem windowBoundsAreInertUnderMod256 : Obligations.WindowBoundsAreInertUnderMod256 := by
  intro i s p q hw hp
  have v : SameView s { s with regs := { s.regs with tops := p, bottoms := q } } :=
    { SameView.refl s with next8At := fun j c => by simp only [State.next8At, next8, hw] }
  obtain ⟨s', t', hs, ht, hr, hf⟩ := exec_congr hp v
  refine ⟨s', t', hs, ht, hr, fun f h₁ h₂ => hf f ?_⟩
  cases f with
  | tops j => exact absurd rfl (h₁ j)
  | bottoms j => exact absurd rfl (h₂ j)
  | _ => rfl

/-! ### Construction -/

theorem ChipRegisters.get_zero (f : Field) : ChipRegisters.zero.get f = 0 := by
  cases f <;> simp [ChipRegisters.get, ChipRegisters.zero, Memory.unlisted]

/-- Settles O13, from the construction state's own fields. -/
theorem constructionState : Obligations.ConstructionState := by
  intro cfg
  refine ⟨fun i => ?_, fun v => ?_, rfl, rfl, rfl, rfl, fun _ => rfl, rfl, rfl, rfl, ChipRegisters.get_zero, rfl, rfl⟩
  · simp [State.construct, ChipRegisters.zero]
  · simp [State.construct, ChipRegisters.zero]

/-- Settles O43: with counters and selectors 0 every voice's sample is display byte 0. -/
theorem outputsAfterConstruction : Obligations.OutputsAfterConstruction := by
  intro cfg
  have hi (v : Fin 3) : (State.construct cfg).sampleIndex v = 0 := by
    simp [State.sampleIndex, State.construct, ChipRegisters.zero]
  have hw (v : Fin 3) : (State.construct cfg).waddr v = 0 := by
    rw [State.waddr, hi]
    simp [waveBase, State.construct, ChipRegisters.zero]
  have hs (v : Fin 3) : (State.construct cfg).sample v = Memory.read cfg.ramInit 0 := by
    rw [State.sample, hw]
    rfl
  refine ⟨fun v => ⟨hi v, hw v⟩, ?_, rfl, rfl⟩
  show State.amplitude _ = _
  simp only [State.amplitude, hs]
  omega

end Sys2Proof.Machine

/-! PROOFS. The family of spec/20_memory.md. Every transaction completes and leaves the waiting words alone
(`exec_completes`, `exec_keeps_pending`); a bus read changes the result alone (`exec_busRead`) and does not look at the
one before (`exec_program_ignores_result`); a display byte written is the byte read at its address
(`displayByte_setByte`). -/

namespace Sys2Proof.Machine

variable {i : Instr} {s t : State}

/-! ### Every transaction completes (20_memory.md R61) -/

theorem exec_completes (i : Instr) (s : State) : ∃ t, exec i s = .next t := by
  by_cases hp : portOf i = .debug
  · obtain ⟨t, ht, -⟩ := exec_debug hp s
    exact ⟨t, ht⟩
  · obtain ⟨g, x, -, hx⟩ := exec_program i s hp
    exact ⟨_, hx s (.refl s)⟩

theorem exec_keeps_pending (h : exec i s = .next t) : t.pending = s.pending := by
  rcases exec_cases h with ⟨-, g, x, -, rfl⟩ | ⟨-, he⟩
  · rfl
  · cases he <;> rfl

/-- A word is performed or refused; both lead to a state with the same waiting words. -/
theorem performWord_completes (w : Word) (s : State) : ∃ t, performWord w s = .next t ∧ t.pending = s.pending := by
  unfold performWord
  cases decode w with
  | ok i =>
    obtain ⟨t, ht⟩ := exec_completes i s
    exact ⟨t, ht, exec_keeps_pending ht⟩
  | error e => exact ⟨_, refuseWord_eq s w, rfl⟩

/-- Settles O9: the step drops the word from the waiting ones and performs it. -/
theorem everyWaitingWordIsTaken : Obligations.EveryWaitingWordIsTaken := by
  intro s w p hf hp
  rw [step_of_word hf hp]
  exact performWord_completes w { s with pending := p }

/-! ### Side effects of bus accesses (20_memory.md R58) -/

/-- A bus read that is no hotspot answers, and changes nothing else. -/
theorem exec_busRead (hp : portOf i = .busRead) (hh : hotspotBank i = none) (s : State) :
    ∃ x, exec i s = .next { s with result := x } := by
  cases i with
  | random _ | amplitude | rdrsv005 | rdrsv006 _ | dfdata _ | dffrac _ | rdrsv018 _ | rdrsv020 _ | romrd _ =>
    exact ⟨_, rfl⟩
  | hotspot0 _ | hotspot1 _ | hotspot2 _ | hotspot3 _ | hotspot4 _ | hotspot5 _ => cases hh
  | _ => cases hp

/-- The result of the transaction before is not in the view of a bus transaction or a tick. -/
theorem exec_program_ignores_result (hp : portOf i ≠ .debug) (h : exec i s = .next t) (r : Result) :
    exec i { s with result := r } = .next t := by
  obtain ⟨g, x, -, hx⟩ := exec_program i s hp
  rw [hx s (.refl s)] at h
  cases h
  exact hx _ (.of_eq rfl rfl rfl)

/-- A bus transaction or a tick completes and changes only what it may write: O21 for the register file, O16 outside
it. -/
theorem exec_program_changesOnly (hp : portOf i ≠ .debug) (s : State) :
    ∃ t, exec i s = .next t ∧ ChangesOnly (mayWrite i s) s t := by
  obtain ⟨t, ht⟩ := exec_completes i s
  exact ⟨t, ht, onlyNamedElementsChange i s t ht, programCannotReachTheDebugPort i s t hp ht⟩

/-- Settles O18: a read is idempotent because it keeps all it looks at; hotspots and writes by their frames. -/
theorem sideEffectsOfBusAccesses : Obligations.SideEffectsOfBusAccesses := by
  refine ⟨fun i s hp hh => ?_, fun n rw s => ?_, fun i s hp => ?_⟩
  · obtain ⟨x, hx⟩ := exec_busRead hp hh s
    exact ⟨x, hx, exec_program_ignores_result (by simp [hp]) hx x⟩
  · obtain ⟨x, hx⟩ := hotspotAccess_next s n rw
    exact ⟨_, (exec_hotspotOf s n rw).trans hx, hotspotAccess_keeps s n rw hx⟩
  · exact exec_program_changesOnly (by simp [hp]) s

/-! ### A display byte read after a write (20_memory.md R60, R63) -/

theorem exec_dfdata (j : Fin 8) (s : State) :
    exec (.dfdata j) s = .next { s with result := .byte (s.displayByte (s.faddr j)) } := rfl

theorem exec_dfwrite (i : Fin 8) (d : Byte) (s : State) :
    exec (.dfwrite i d) s = .next { s.mapRegs (·.setByte (s.faddr i) d) with result := .nothing } := rfl

theorem displayByte_setByte (s : State) (a b : Nat) (d : Byte) :
    (s.mapRegs (·.setByte a d)).displayByte b = if b = a then d else s.displayByte b :=
  Memory.read_write s.regs.displayImage a b d

/-- A display byte is no part of a fetch address, so the write moves no fetcher. -/
theorem faddr_setByte (s : State) (a : Nat) (d : Byte) (j : Fin 8) :
    (s.mapRegs (·.setByte a d)).faddr j = s.faddr j := rfl

/-- What a `DFDATA` answers right after a `DFWRITE`. -/
theorem exec_dfdata_after_dfwrite (i j : Fin 8) (d : Byte) (s : State) :
    ∃ t u, exec (.dfwrite i d) s = .next t ∧ exec (.dfdata j) t = .next u ∧
      u.result = .byte (if s.faddr j = s.faddr i then d else s.displayByte (s.faddr j)) := by
  refine ⟨_, _, exec_dfwrite i d s, exec_dfdata j _, ?_⟩
  rw [← displayByte_setByte, ← faddr_setByte s (s.faddr i) d j]
  rfl

/-- Settles O33: the byte written at the same address, the byte `DFDATA` would have read before at another. -/
theorem dfdataAfterDfwrite : Obligations.DfdataAfterDfwrite := by
  intro i j d s
  obtain ⟨t, u, ht, hu, hr⟩ := exec_dfdata_after_dfwrite i j d s
  exact ⟨t, u, _, ht, hu, exec_dfdata j s, fun h => by rw [hr, if_pos h], fun h => by rw [hr, if_neg h]⟩

end Sys2Proof.Machine

/-! PROOFS. The family of spec/30_encoding.md. What the decoder can answer, said once: it refuses the reserved words,
and on any other word it answers a well-formed transaction that encodes to the word (`decode_cases`). Two rows of the
opcode table that one word matches are `Compatible`, and few rows are (`compatible_rows`). -/

namespace Sys2Proof

open Machine

/-! ### Fields of the tick and debug formats (30_encoding.md R72, R73) -/

theorem tickWord_eq (fe fr : BitVec 8) (mu : BitVec 3) (rn : Bool) :
    tickWord fe fr mu rn = 0b10#2 ++ 0#10 ++ (BitVec.ofBool rn ++ mu ++ fr ++ fe) := by
  apply BitVec.eq_of_toNat_eq
  simp only [tickWord, toNat_concat, BitVec.toNat_ofNat]
  omega

theorem tick_fields (fe fr : BitVec 8) (mu : BitVec 3) (rn : Bool) :
    (BitVec.ofBool rn ++ mu ++ fr ++ fe).extractLsb' 0 8 = fe ∧
    (BitVec.ofBool rn ++ mu ++ fr ++ fe).extractLsb' 8 8 = fr ∧
    (BitVec.ofBool rn ++ mu ++ fr ++ fe).extractLsb' 16 3 = mu ∧
    (BitVec.ofBool rn ++ mu ++ fr ++ fe).getLsbD 19 = rn := by
  refine ⟨?_, ?_, ?_, by simp only [BitVec.getLsbD_append]; simp⟩ <;>
  simp (disch := omega) only [BitVec.extractLsb'_append_eq_of_le, BitVec.extractLsb'_append_eq_right, Nat.reduceSub]

theorem decodeTick_fields (fe fr : BitVec 8) (mu : BitVec 3) (rn : Bool) :
    decodeTick (BitVec.ofBool rn ++ mu ++ fr ++ fe) = .tick fe fr mu rn := by
  obtain ⟨h₁, h₂, h₃, h₄⟩ := tick_fields fe fr mu rn
  simp only [decodeTick, h₁, h₂, h₃, h₄]

/-- One bit of a field, as a field. -/
theorem ofBool_getLsbD {n : Nat} (y : BitVec n) (k : Nat) : BitVec.ofBool (y.getLsbD k) = y.extractLsb' k 1 := by
  have h : ∀ b : BitVec 1, BitVec.ofBool (b == 1#1) = b := by decide
  rw [BitVec.getLsbD_eq_extractLsb', h]

/-- Every tick field is the concatenation of its strobes. -/
theorem tick_split (y : BitVec 20) :
    BitVec.ofBool (y.getLsbD 19) ++ y.extractLsb' 16 3 ++ y.extractLsb' 8 8 ++ y.extractLsb' 0 8 = y := by
  rw [ofBool_getLsbD, BitVec.extractLsb'_append_extractLsb'_eq_extractLsb' (by rfl),
    BitVec.extractLsb'_append_extractLsb'_eq_extractLsb' (by rfl)]
  exact BitVec.extractLsb'_append_extractLsb'

theorem range_fields (start count : BitVec 13) :
    (start ++ count).extractLsb' 13 13 = start ∧ (start ++ count).extractLsb' 0 13 = count :=
  ⟨BitVec.extractLsb'_append_eq_left, BitVec.extractLsb'_append_eq_right⟩

theorem writeram_fields (addr : BitVec 13) (value : Byte) :
    (addr ++ 0#5 ++ value).extractLsb' 13 13 = addr ∧ (addr ++ 0#5 ++ value).extractLsb' 8 5 = 0#5 ∧
    (addr ++ 0#5 ++ value).extractLsb' 0 8 = value := by
  refine ⟨?_, ?_, ?_⟩ <;>
  simp (disch := omega) only [BitVec.extractLsb'_append_eq_of_le, BitVec.extractLsb'_append_eq_right, Nat.reduceSub,
    BitVec.extractLsb'_eq_self]

/-! ### A well-formed transaction is decoded from its word -/

variable {i : Instr} {a : BusAddr} {d : Byte}

theorem decode_encode_of_read (he : encode i = readWord a) (hd : decodeRead a = i) : decode (encode i) = .ok i := by
  rw [he, ← hd]
  exact decode_busRead a 0#8

theorem decode_encode_of_write (he : encode i = writeWord a d) (hd : decodeWrite a d = i) :
    decode (encode i) = .ok i := by
  rw [he, ← hd]
  exact decode_busWrite a d

theorem decode_encode_of_debug {op : BitVec 4} {x : BitVec 26} (he : encode i = debugWord op x)
    (hd : decodeDebug op x = .ok i) : decode (encode i) = .ok i := by
  rw [he, ← hd]
  exact decode_debugWord op x

/-- Settles O2, one constructor at a time: a register block has finitely many addresses, the catch-all rows are left
to the addresses outside every block, and a tick or debug word is read field by field. -/
theorem decodeOfEncodeIsIdentity : Obligations.DecodeOfEncodeIsIdentity := by
  intro i hw
  cases i with
  | random x | rdrsv006 x | dfdata x | dffrac x | rdrsv018 x | rdrsv020 x =>
    exact decode_encode_of_read rfl (by fin_cases x <;> rfl)
  | amplitude | rdrsv005 => exact decode_encode_of_read rfl rfl
  | hotspot0 rw | hotspot1 rw | hotspot2 rw | hotspot3 rw | hotspot4 rw | hotspot5 rw =>
    cases rw
    · exact decode_encode_of_read rfl rfl
    · exact decode_encode_of_write rfl rfl
  | romrd a => exact decode_encode_of_read rfl (decodeRead_romrd a (by simpa [Instr.wf] using hw))
  | fracint x d | fracinc x d | dftop x d | dfbot x d | dflow x d | waveform x d | dfwrite x d | rwrite x d
  | param x d | note x d => exact decode_encode_of_write rfl (by fin_cases x <;> rfl)
  | fastfetch d | immlda d | wign057 d | wign073 d | rreset => exact decode_encode_of_write rfl rfl
  | wign a d => exact decode_encode_of_write rfl (decodeWrite_wign a d (by simpa [Instr.wf] using hw))
  | tick fe fr mu rn => rw [encode, tickWord_eq, decode_tickFormat, decodeTick_fields]
  | dbgReadram start count | dbgCurrentram start count =>
    obtain ⟨h₁, h₂⟩ := range_fields start count
    exact decode_encode_of_debug rfl (by simp [decodeDebug, h₁, h₂])
  | dbgWriteram addr value =>
    obtain ⟨h₁, h₂, h₃⟩ := writeram_fields addr value
    exact decode_encode_of_debug rfl (by simp [decodeDebug, h₁, h₂, h₃])
  | dbgForcebank n => exact decode_encode_dbgForcebank n
  | dbgSetlock b => exact decode_encode_dbgSetlock b
  | dbgSnapshot | dbgUnlock | dbgLock | dbgReport | dbgRamsize => rfl

/-! ### What the decoder can answer -/

/-- A must-be-zero field or an operation of the debug format that R73 reserves. -/
def ReservedDebug (op : BitVec 4) (x : BitVec 26) : Prop :=
  10 ≤ op.toNat ∨ (op.toNat ∈ [0, 5, 6, 8, 9] ∧ x ≠ 0#26) ∨ (op.toNat = 3 ∧ x.extractLsb' 8 5 ≠ 0#5) ∨
  (op.toNat = 7 ∧ x.extractLsb' 1 25 ≠ 0#25)

/-- The words that 30_encoding.md R78 refuses. -/
def Reserved (w : Word) : Prop :=
  (w.extractLsb' 30 2 ≠ 3#2 ∧ w.extractLsb' 20 10 ≠ 0#10) ∨
  (w.extractLsb' 30 2 = 3#2 ∧ ReservedDebug (w.extractLsb' 26 4) (w.extractLsb' 0 26))

/-- `i` is well formed and its word is `w`, but for a data field that `i` ignores (30_encoding.md R80). -/
def Restores (w : Word) (i : Instr) : Prop :=
  i.wf = true ∧ encode i = if i.ignoresData then w &&& 0xFFFFFF00#32 else w

theorem restores_of_eq {w : Word} (hw : i.wf = true) (hi : i.ignoresData = false) (he : encode i = w) : Restores w i :=
  ⟨hw, by rw [he, hi]; rfl⟩

theorem restores_of_ignoresData {p : BitVec 2} (hw : i.wf = true) (hi : i.ignoresData = true)
    (he : encode i = busWord p a 0#8) : Restores (busWord p a d) i := by
  refine ⟨hw, ?_⟩
  have hm : busWord p a d &&& (BitVec.allOnes 24 ++ 0#8) = busWord p a 0#8 := by
    rw [busWord, BitVec.and_append, BitVec.and_allOnes, BitVec.and_zero]
    rfl
  rw [he, hi]
  exact hm.symm

theorem hotspotAddr_bankOf (h : 0xFF6 ≤ a.toNat ∧ a.toNat ≤ 0xFFB) : hotspotAddr (bankOf a) = a := by
  apply BitVec.eq_of_toNat_eq
  show (0xFF6 + (a.toNat - 0xFF6) % 6) % 2 ^ 12 = a.toNat
  omega

theorem hotspotOf_facts (n : Fin bankCount) (rw : Access) :
    (hotspotOf n rw).wf = true ∧ (hotspotOf n rw).ignoresData = true ∧
    encode (hotspotOf n rw) = hotspotWord (hotspotAddr n) rw := by
  fin_cases n <;> exact ⟨rfl, rfl, rfl⟩

theorem restores_hotspot (h : 0xFF6 ≤ a.toNat ∧ a.toNat ≤ 0xFFB) :
    Restores (busWord 0b00#2 a d) (hotspotOf (bankOf a) .read) ∧
    Restores (busWord 0b01#2 a d) (hotspotOf (bankOf a) .write) := by
  have hf := hotspotOf_facts (bankOf a)
  rw [hotspotAddr_bankOf h] at hf
  obtain ⟨hw, hi, he⟩ := hf .read
  obtain ⟨hw', hi', he'⟩ := hf .write
  exact ⟨restores_of_ignoresData hw hi he, restores_of_ignoresData hw' hi' he'⟩

theorem restores_ite {c : Prop} [Decidable c] {w : Word} {i j : Instr} (hi : c → Restores w i)
    (hj : ¬ c → Restores w j) : Restores w (if c then i else j) := by
  split
  · exact hi ‹_›
  · exact hj ‹_›

theorem regAddr_low (base : Nat) (a : BusAddr) (hb : base % 2 = 0) (h₁ : base ≤ a.toNat) (h₂ : a.toNat ≤ base + 1) :
    regAddr base (Fin.ofNat 2 a.toNat) = a :=
  regAddr_eq _ _ _ (by show base + a.toNat % 2 = a.toNat; omega)

/-- The bus read map line by line (30_encoding.md R75). -/
theorem restores_decodeRead (a : BusAddr) (d : Byte) : Restores (busWord 0b00#2 a d) (decodeRead a) := by
  have row {i : Instr} {b : BusAddr} (hb : b = a) (hw : i.wf = true) (hi : i.ignoresData = true)
      (he : encode i = readWord b) : Restores (busWord 0b00#2 a d) i := restores_of_ignoresData hw hi (hb ▸ he)
  refine restores_ite (fun _ => row (regAddr_laneOf 0x000 a rfl (by omega) (by omega)) rfl rfl rfl) fun _ => ?_
  refine restores_ite (fun h => row (b := 0x004#12) (BitVec.eq_of_toNat_eq h.symm) rfl rfl rfl) fun _ => ?_
  refine restores_ite (fun h => row (b := 0x005#12) (BitVec.eq_of_toNat_eq h.symm) rfl rfl rfl) fun _ => ?_
  refine restores_ite (fun _ => row (regAddr_low 0x006 a rfl (by omega) (by omega)) rfl rfl rfl) fun _ => ?_
  refine restores_ite (fun _ => row (regAddr_fetcherOf 0x008 a rfl (by omega) (by omega)) rfl rfl rfl) fun _ => ?_
  refine restores_ite (fun _ => row (regAddr_fetcherOf 0x010 a rfl (by omega) (by omega)) rfl rfl rfl) fun _ => ?_
  refine restores_ite (fun _ => row (regAddr_fetcherOf 0x018 a rfl (by omega) (by omega)) rfl rfl rfl) fun _ => ?_
  refine restores_ite (fun _ => row (regAddr_fetcherOf 0x020 a rfl (by omega) (by omega)) rfl rfl rfl) fun _ => ?_
  refine restores_ite (fun h => (restores_hotspot h).1) fun _ => ?_
  have hm : readMapped a = false := decide_eq_false (by omega)
  exact row rfl (by simp [Instr.wf, hm]) rfl rfl

/-- The bus write map line by line (30_encoding.md R76). -/
theorem restores_decodeWrite (a : BusAddr) (d : Byte) : Restores (busWord 0b01#2 a d) (decodeWrite a d) := by
  have row {i : Instr} {b : BusAddr} (hb : b = a) (hw : i.wf = true) (hi : i.ignoresData = false)
      (he : encode i = writeWord b d) : Restores (busWord 0b01#2 a d) i := restores_of_eq hw hi (hb ▸ he)
  have ignored (h : writeMapped a = false) : Restores (busWord 0b01#2 a d) (.wign a d) :=
    row rfl (by simp [Instr.wf, h]) rfl rfl
  refine restores_ite (fun h => (restores_hotspot h).2) fun _ => ?_
  refine restores_ite (fun _ => ignored (decide_eq_false (by omega))) fun _ => ?_
  refine restores_ite (fun _ => row (regAddr_fetcherOf 0x028 a rfl (by omega) (by omega)) rfl rfl rfl) fun _ => ?_
  refine restores_ite (fun _ => row (regAddr_fetcherOf 0x030 a rfl (by omega) (by omega)) rfl rfl rfl) fun _ => ?_
  refine restores_ite (fun _ => row (regAddr_fetcherOf 0x038 a rfl (by omega) (by omega)) rfl rfl rfl) fun _ => ?_
  refine restores_ite (fun _ => row (regAddr_fetcherOf 0x040 a rfl (by omega) (by omega)) rfl rfl rfl) fun _ => ?_
  refine restores_ite (fun _ => row (regAddr_fetcherOf 0x048 a rfl (by omega) (by omega)) rfl rfl rfl) fun _ => ?_
  refine restores_ite (fun h => row (b := 0x050#12) (BitVec.eq_of_toNat_eq h.symm) rfl rfl rfl) fun _ => ?_
  refine restores_ite (fun h => row (b := 0x051#12) (BitVec.eq_of_toNat_eq h.symm) rfl rfl rfl) fun _ => ?_
  refine restores_ite (fun _ => ignored (decide_eq_false (by omega))) fun _ => ?_
  refine restores_ite (fun h => row (b := 0x057#12) (BitVec.eq_of_toNat_eq h.symm) rfl rfl rfl) fun _ => ?_
  refine restores_ite (fun _ => row (regAddr_voiceOf 0x054 a rfl (by omega) (by omega)) rfl rfl rfl) fun _ => ?_
  refine restores_ite (fun _ => row (regAddr_fetcherOf 0x058 a rfl (by omega) (by omega)) rfl rfl rfl) fun _ => ?_
  refine restores_ite (fun _ => row (regAddr_laneOf 0x060 a rfl (by omega) (by omega)) rfl rfl rfl) fun _ => ?_
  refine restores_ite (fun h => restores_of_ignoresData rfl rfl
    (congrArg (busWord 0b01#2 · 0#8) (BitVec.eq_of_toNat_eq (x := 0x064#12) h.symm))) fun _ => ?_
  refine restores_ite (fun _ => ignored (decide_eq_false (by omega))) fun _ => ?_
  refine restores_ite (fun _ => row (regAddr_fetcherOf 0x068 a rfl (by omega) (by omega)) rfl rfl rfl) fun _ => ?_
  refine restores_ite (fun h => row (b := 0x073#12) (BitVec.eq_of_toNat_eq h.symm) rfl rfl rfl) fun _ => ?_
  refine restores_ite (fun _ => row (regAddr_voiceOf 0x070 a rfl (by omega) (by omega)) rfl rfl rfl) fun _ => ?_
  exact ignored (decide_eq_false (by omega))

theorem restores_decodeTick (y : BitVec 20) : Restores (0b10#2 ++ 0#10 ++ y) (decodeTick y) :=
  restores_of_eq rfl rfl ((tickWord_eq _ _ _ _).trans (congrArg _ (tick_split y)))

/-- An operation whose guard `c` is its must-be-zero condition, and whose answer restores the word. -/
theorem decodeDebug_of_guard {op : BitVec 4} {x : BitVec 26} {c : Prop} [Decidable c]
    (hd : decodeDebug op x = if c then .ok i else .error .debugReservedBits) (hr : ReservedDebug op x ↔ ¬ c)
    (hi : c → Restores (debugWord op x) i) :
    (ReservedDebug op x ∧ ∃ e, decodeDebug op x = .error e) ∨
    (¬ ReservedDebug op x ∧ ∃ i, decodeDebug op x = .ok i ∧ Restores (debugWord op x) i) := by
  by_cases hc : c
  · exact .inr ⟨fun h => hr.mp h hc, i, by rw [hd, if_pos hc], hi hc⟩
  · exact .inl ⟨hr.mpr hc, _, by rw [hd, if_neg hc]⟩

theorem debugOp_cases (op : BitVec 4) :
    op = 0#4 ∨ op = 1#4 ∨ op = 2#4 ∨ op = 3#4 ∨ op = 4#4 ∨ op = 5#4 ∨ op = 6#4 ∨ op = 7#4 ∨ op = 8#4 ∨ op = 9#4 ∨
    10 ≤ op.toNat := by
  revert op
  decide

theorem decodeDebug_cases (op : BitVec 4) (x : BitVec 26) :
    (ReservedDebug op x ∧ ∃ e, decodeDebug op x = .error e) ∨
    (¬ ReservedDebug op x ∧ ∃ i, decodeDebug op x = .ok i ∧ Restores (debugWord op x) i) := by
  have word {i : Instr} {y : BitVec 26} (hy : y = x) (hw : i.wf = true) (hi : i.ignoresData = false)
      (he : encode i = debugWord op y) : Restores (debugWord op x) i := restores_of_eq hw hi (hy ▸ he)
  rcases debugOp_cases op with rfl | rfl | rfl | rfl | rfl | rfl | rfl | rfl | rfl | rfl | h
  · exact decodeDebug_of_guard rfl (by simp [ReservedDebug]) fun hx => word hx.symm rfl rfl rfl
  · exact decodeDebug_of_guard (c := True) rfl (by simp [ReservedDebug])
      fun _ => word BitVec.extractLsb'_append_extractLsb' rfl rfl rfl
  · exact decodeDebug_of_guard (c := True) rfl (by simp [ReservedDebug])
      fun _ => word BitVec.extractLsb'_append_extractLsb' rfl rfl rfl
  · refine decodeDebug_of_guard rfl (by simp [ReservedDebug]) fun hx => word ?_ rfl rfl rfl
    rw [← hx, BitVec.extractLsb'_append_extractLsb'_eq_extractLsb' (by rfl)]
    exact BitVec.extractLsb'_append_extractLsb'
  · exact decodeDebug_of_guard (c := True) rfl (by simp [ReservedDebug]) fun _ => word rfl rfl rfl rfl
  · exact decodeDebug_of_guard rfl (by simp [ReservedDebug]) fun hx => word hx.symm rfl rfl rfl
  · exact decodeDebug_of_guard rfl (by simp [ReservedDebug]) fun hx => word hx.symm rfl rfl rfl
  · refine decodeDebug_of_guard rfl (by simp [ReservedDebug]) fun hx => word ?_ rfl rfl rfl
    rw [← hx, ofBool_getLsbD]
    exact BitVec.extractLsb'_append_extractLsb'
  · exact decodeDebug_of_guard rfl (by simp [ReservedDebug]) fun hx => word hx.symm rfl rfl rfl
  · exact decodeDebug_of_guard rfl (by simp [ReservedDebug]) fun hx => word hx.symm rfl rfl rfl
  · refine .inl ⟨.inl h, .debugReservedOp, ?_⟩
    unfold decodeDebug
    split
    case h_11 => rfl
    all_goals omega

theorem port_cases (p : BitVec 2) (h : p ≠ 3#2) : p = 0#2 ∨ p = 1#2 ∨ p = 2#2 := by
  revert p
  decide

/-- A bus or tick word with zero reserved bits is accepted (30_encoding.md R71, R72, R78). -/
theorem decode_of_zero {w : Word} (hp : w.extractLsb' 30 2 ≠ 3#2) (hz : w.extractLsb' 20 10 = 0#10) :
    ∃ i, decode w = .ok i ∧ Restores w i := by
  have hb := bus_split w
  have ht := wide_split w
  rcases port_cases _ hp with h | h | h <;> rw [h, hz] at hb ht
  · rw [hb]
    exact ⟨_, decode_busRead _ _, restores_decodeRead _ _⟩
  · rw [hb]
    exact ⟨_, decode_busWrite _ _, restores_decodeWrite _ _⟩
  · rw [ht]
    exact ⟨_, decode_tickFormat _, restores_decodeTick _⟩

/-- A bus or tick word with a reserved bit set is refused (30_encoding.md R78). -/
theorem decode_of_nonzero {w : Word} (hp : w.extractLsb' 30 2 ≠ 3#2) (hz : w.extractLsb' 20 10 ≠ 0#10) :
    ∃ e, decode w = .error e := by
  unfold decode
  rcases port_cases _ hp with h | h | h <;> rw [h] <;> exact ⟨_, if_neg hz⟩

/-- The decoder refuses exactly the reserved words, and what it answers on any other restores the word. -/
theorem decode_cases (w : Word) :
    (Reserved w ∧ ∃ e, decode w = .error e) ∨ (¬ Reserved w ∧ ∃ i, decode w = .ok i ∧ Restores w i) := by
  by_cases hp : w.extractLsb' 30 2 = 3#2
  · have hw : w = debugWord (w.extractLsb' 26 4) (w.extractLsb' 0 26) := by
      have h := debug_split w
      rwa [hp] at h
    have hr : Reserved w ↔ ReservedDebug (w.extractLsb' 26 4) (w.extractLsb' 0 26) := by simp [Reserved, hp]
    have hd : decode w = decodeDebug (w.extractLsb' 26 4) (w.extractLsb' 0 26) :=
      (congrArg decode hw).trans (decode_debugWord _ _)
    have h := decodeDebug_cases (w.extractLsb' 26 4) (w.extractLsb' 0 26)
    rwa [← hw, ← hd, ← hr] at h
  · have hr : Reserved w ↔ w.extractLsb' 20 10 ≠ 0#10 := by simp [Reserved, hp]
    by_cases hz : w.extractLsb' 20 10 = 0#10
    · exact .inr ⟨fun h => hr.mp h hz, decode_of_zero hp hz⟩
    · exact .inl ⟨hr.mpr hz, decode_of_nonzero hp hz⟩

theorem restores_of_decode {w : Word} (h : decode w = .ok i) : Restores w i := by
  rcases decode_cases w with ⟨-, e, he⟩ | ⟨-, j, hj, hw⟩
  · cases he.symm.trans h
  · cases hj.symm.trans h
    exact hw

theorem decode_error_iff (w : Word) : (∃ e, decode w = .error e) ↔ Reserved w := by
  rcases decode_cases w with ⟨hr, he⟩ | ⟨hr, i, hi, -⟩
  · exact iff_of_true he hr
  · exact iff_of_false (fun ⟨e, he⟩ => by cases he.symm.trans hi) hr

/-- Settles O3: the decoder's answer restores the word. -/
theorem encodeOfDecodeRestoresTheWord : Obligations.EncodeOfDecodeRestoresTheWord :=
  fun _ _ h => restores_of_decode h

/-- Settles O5: the reserved words of `Reserved`, with the fields of the debug format read in the whole word. -/
theorem refusedWordsAreExactlyTheReserved : Obligations.RefusedWordsAreExactlyTheReserved := by
  intro w
  have h₁ : (w.extractLsb' 0 26).extractLsb' 8 5 = w.extractLsb' 8 5 :=
    BitVec.extractLsb'_extractLsb'_of_le (by decide)
  have h₂ : (w.extractLsb' 0 26).extractLsb' 1 25 = w.extractLsb' 1 25 :=
    BitVec.extractLsb'_extractLsb'_of_le (by decide)
  rw [decode_error_iff, Reserved, ReservedDebug, h₁, h₂, and_or_left]

/-! ### The opcode table (30_encoding.md R77) -/

section

open Laws.EncodesIntoItsRow

/-- The word of every transaction is matched by its own row. -/
theorem hits_encode : ∀ i : Instr, i.opcodeRow.hits (encode i) = true
  | .random k => random k | .amplitude => amplitude | .rdrsv005 => rdrsv005 | .rdrsv006 x => rdrsv006 x
  | .dfdata i => dfdata i | .dffrac i => dffrac i | .rdrsv018 x => rdrsv018 x | .rdrsv020 x => rdrsv020 x
  | .hotspot0 rw => hotspot0 rw | .hotspot1 rw => hotspot1 rw | .hotspot2 rw => hotspot2 rw
  | .hotspot3 rw => hotspot3 rw | .hotspot4 rw => hotspot4 rw | .hotspot5 rw => hotspot5 rw
  | .romrd a => romrd a | .fracint i d => fracint i d | .fracinc i d => fracinc i d | .dftop i d => dftop i d
  | .dfbot i d => dfbot i d | .dflow i d => dflow i d | .fastfetch d => fastfetch d | .immlda d => immlda d
  | .wign057 d => wign057 d | .waveform v d => waveform v d | .dfwrite i d => dfwrite i d | .rwrite k d => rwrite k d
  | .rreset => rreset | .param i d => param i d | .wign073 d => wign073 d | .note v d => note v d
  | .wign a d => wign a d | .tick fe fr mu rn => tick fe fr mu rn | .dbgSnapshot => dbgSnapshot
  | .dbgReadram s c => dbgReadram s c | .dbgCurrentram s c => dbgCurrentram s c
  | .dbgWriteram a d => dbgWriteram a d | .dbgForcebank n => dbgForcebank n | .dbgUnlock => dbgUnlock
  | .dbgLock => dbgLock | .dbgSetlock b => dbgSetlock b | .dbgReport => dbgReport | .dbgRamsize => dbgRamsize

end

variable {r q : OpcodeRow} {w : Word}

theorem hits_iff : r.hits w = true ↔ w &&& r.mask = r.pattern := beq_iff_eq

/-- A row that does not look at the data field. -/
abbrev DataBlind (r : OpcodeRow) : Prop := 0xFFFFFF00#32 &&& r.mask = r.mask

theorem hits_clearData (h : DataBlind r) : r.hits (w &&& 0xFFFFFF00#32) = r.hits w := by
  rw [OpcodeRow.hits, BitVec.and_assoc, h]
  rfl

theorem opcodeRow_eq (i : Instr) : ∃ h : i.rowIndex < opcodeTable.length, i.opcodeRow = opcodeTable[i.rowIndex] := by
  have h : i.rowIndex < 42 := by cases i <;> simp [Instr.rowIndex]
  exact ⟨h, List.getD_eq_getElem _ _ h⟩

theorem busRows_dataBlind : ∀ k : Fin opcodeTable.length, k.val < 31 → DataBlind opcodeTable[k] := by decide

theorem rowIndex_of_ignoresData (h : i.ignoresData = true) : i.rowIndex < 31 := by
  cases i with
  | random _ | amplitude | rdrsv005 | rdrsv006 _ | dfdata _ | dffrac _ | rdrsv018 _ | rdrsv020 _ | hotspot0 _
  | hotspot1 _ | hotspot2 _ | hotspot3 _ | hotspot4 _ | hotspot5 _ | romrd _ | rreset => simp [Instr.rowIndex]
  | _ => cases h

theorem dataBlind_of_ignoresData (h : i.ignoresData = true) : DataBlind i.opcodeRow := by
  obtain ⟨hlt, hrow⟩ := opcodeRow_eq i
  exact hrow ▸ busRows_dataBlind ⟨_, hlt⟩ (rowIndex_of_ignoresData h)

/-- A row matches the word that the decoded transaction stands for exactly when it matches the word itself. -/
theorem hits_encode_eq (hd : decode w = .ok i) (hb : i.ignoresData = true → DataBlind r) :
    r.hits (encode i) = r.hits w := by
  obtain ⟨-, he⟩ := restores_of_decode hd
  rw [he]
  split
  · exact hits_clearData (hb ‹_›)
  · rfl

theorem hits_of_decode (hd : decode w = .ok i) : i.opcodeRow.hits w = true := by
  rw [← hits_encode_eq hd dataBlind_of_ignoresData]
  exact hits_encode i

/-- Two rows that a word may match together: they ask for the same value where both look. -/
abbrev Compatible (r q : OpcodeRow) : Prop := r.pattern &&& q.mask = q.pattern &&& r.mask

theorem compatible_of_hits (hr : r.hits w = true) (hq : q.hits w = true) : Compatible r q := by
  rw [Compatible, ← hits_iff.mp hr, ← hits_iff.mp hq, BitVec.and_assoc, BitVec.and_assoc, BitVec.and_comm r.mask]

/-- The first bus address a row may match. -/
def OpcodeRow.firstAddr (r : OpcodeRow) : Nat := (r.pattern.extractLsb' 8 12).toNat

/-- A bound of the bus addresses a row may match: the address bits it does not look at all set. -/
def OpcodeRow.lastAddr (r : OpcodeRow) : Nat := r.firstAddr + (~~~(r.mask.extractLsb' 8 12)).toNat

/-- The row matches bus addresses from `lo` to `hi` alone. -/
abbrev OpcodeRow.Within (r : OpcodeRow) (lo hi : Nat) : Prop := lo ≤ r.firstAddr ∧ r.lastAddr ≤ hi

theorem field_of_hits (h : r.hits w = true) (start len : Nat) :
    w.extractLsb' start len &&& r.mask.extractLsb' start len = r.pattern.extractLsb' start len := by
  rw [← BitVec.extractLsb'_and, hits_iff.mp h]

theorem toNat_le_masked {n : Nat} (x m : BitVec n) : x.toNat ≤ (x &&& m).toNat + (~~~m).toNat := by
  have hd : x &&& m &&& (x &&& ~~~m) = 0#n := by
    ext j hj
    simp +contextual
  have hx : x &&& m ||| x &&& ~~~m = x := by
    rw [← BitVec.and_or_distrib_left]
    simp
  calc x.toNat = (x &&& m).toNat + (x &&& ~~~m).toNat := by
        rw [← BitVec.toNat_add_of_and_eq_zero hd, BitVec.add_eq_or_of_and_eq_zero _ _ hd, hx]
    _ ≤ (x &&& m).toNat + (~~~m).toNat := Nat.add_le_add_left Nat.and_le_right _

theorem addr_of_hits {p : BitVec 2} (h : r.hits (busWord p a d) = true) :
    r.firstAddr ≤ a.toNat ∧ a.toNat ≤ r.lastAddr := by
  have ha : a &&& r.mask.extractLsb' 8 12 = r.pattern.extractLsb' 8 12 := by
    obtain ⟨-, -, hf, -⟩ := bus_fields p 0#10 a d
    have hm := field_of_hits h 8 12
    rwa [busWord, hf] at hm
  rw [OpcodeRow.lastAddr, OpcodeRow.firstAddr, ← ha]
  exact ⟨Nat.and_le_left, toNat_le_masked a _⟩

/-- Which row stands before another that a word may match too: a row of the read map before `ROMRD`, a row of the
write map before the catch-all `WIGN`, and the two single-address `WIGN` rows before `WAVEFORM` and `NOTE`. -/
theorem compatible_rows : ∀ m k : Fin opcodeTable.length, k < m → Compatible opcodeTable[k] opcodeTable[m] →
    (m.val = 14 ∧ (opcodeTable[k].Within 0x000 0x027 ∨ opcodeTable[k].Within 0xFF6 0xFFB)) ∨
    (m.val = 30 ∧ (opcodeTable[k].Within 0x028 0x051 ∨ opcodeTable[k].Within 0x054 0x064 ∨
      opcodeTable[k].Within 0x068 0x073 ∨ opcodeTable[k].Within 0xFF6 0xFFB)) ∨
    (k.val = 22 ∧ m.val = 23 ∧ opcodeTable[k].Within 0x057 0x057) ∨
    (k.val = 28 ∧ m.val = 29 ∧ opcodeTable[k].Within 0x073 0x073) := by
  decide

theorem rowIndex_shared (i : Instr) :
    (i.rowIndex = 14 → ∃ a, i = .romrd a) ∧ (i.rowIndex = 30 → ∃ a d, i = .wign a d) ∧
    (i.rowIndex = 23 → ∃ v d, i = .waveform v d) ∧ (i.rowIndex = 29 → ∃ v d, i = .note v d) := by
  cases i <;> simp [Instr.rowIndex]

/-- No row before the decoded transaction's own matches the word. -/
theorem not_hits_earlier (hd : decode w = .ok i) (k : Fin opcodeTable.length) (hk : k.val < i.rowIndex) :
    ¬ opcodeTable[k].hits w = true := by
  intro hw
  obtain ⟨hwf, -⟩ := restores_of_decode hd
  obtain ⟨hlt, hrow⟩ := opcodeRow_eq i
  obtain ⟨h14, h30, h23, h29⟩ := rowIndex_shared i
  have hc : Compatible opcodeTable[k] opcodeTable[i.rowIndex] := hrow ▸ compatible_of_hits hw (hits_of_decode hd)
  have he : opcodeTable[k].hits (encode i) = true := by
    rwa [hits_encode_eq hd fun h => busRows_dataBlind k (hk.trans (rowIndex_of_ignoresData h))]
  rcases compatible_rows ⟨i.rowIndex, hlt⟩ k hk hc with ⟨hm, hr⟩ | ⟨hm, hr⟩ | ⟨-, hm, hr⟩ | ⟨-, hm, hr⟩
  · obtain ⟨a, rfl⟩ := h14 hm
    obtain ⟨h₁, h₂⟩ := addr_of_hits (p := 0b00#2) (a := a) (d := 0#8) he
    have hn := of_decide_eq_false (Bool.not_eq_true' _ ▸ hwf : readMapped a = false)
    omega
  · obtain ⟨a, d, rfl⟩ := h30 hm
    obtain ⟨h₁, h₂⟩ := addr_of_hits (p := 0b01#2) (a := a) (d := d) he
    have hn := of_decide_eq_false (Bool.not_eq_true' _ ▸ hwf : writeMapped a = false)
    omega
  · obtain ⟨v, d, rfl⟩ := h23 hm
    obtain ⟨h₁, -⟩ := addr_of_hits (p := 0b01#2) (a := regAddr 0x054 v) (d := d) he
    rw [regAddr_toNat 0x054 v (by decide)] at h₁
    omega
  · obtain ⟨v, d, rfl⟩ := h29 hm
    obtain ⟨h₁, -⟩ := addr_of_hits (p := 0b01#2) (a := regAddr 0x070 v) (d := d) he
    rw [regAddr_toNat 0x070 v (by decide)] at h₁
    omega

/-- The row asks for the value `v` of the field `T[start + len - 1 : start]`. -/
abbrev Asks (r : OpcodeRow) (start len : Nat) (v : BitVec len) : Prop :=
  r.mask.extractLsb' start len = BitVec.allOnes len ∧ r.pattern.extractLsb' start len = v

theorem field_of_asks {start len : Nat} {v : BitVec len} (h : r.hits w = true) (ha : Asks r start len v) :
    w.extractLsb' start len = v := by
  rw [← ha.2, ← field_of_hits h, ha.1, BitVec.and_allOnes]

theorem rows_port_or_zero : ∀ r ∈ opcodeTable, Asks r 30 2 3#2 ∨ Asks r 20 10 0#10 := by decide

/-- A row of the debug port asks for one of the operations 0 to 9 and for the must-be-zero field of that operation. -/
theorem rows_debug : ∀ r ∈ opcodeTable, 3#2 &&& r.mask.extractLsb' 30 2 = r.pattern.extractLsb' 30 2 →
    ∃ op : Fin 10, Asks r 26 4 (BitVec.ofNat 4 op.val) ∧ (op.val ∈ [0, 5, 6, 8, 9] → Asks r 0 26 0#26) ∧
      (op.val = 3 → Asks r 8 5 0#5) ∧ (op.val = 7 → Asks r 1 25 0#25) := by
  decide

/-- A word that a row matches is not refused. -/
theorem not_hits_of_error {e : DecodeError} (hd : decode w = .error e) (hr : r ∈ opcodeTable) : r.hits w = false := by
  by_contra hw
  rw [Bool.not_eq_false] at hw
  rcases (refusedWordsAreExactlyTheReserved w).mp ⟨e, hd⟩ with ⟨hp, hz⟩ | hdebug
  · rcases rows_port_or_zero r hr with ha | ha
    · exact hp (field_of_asks hw ha)
    · exact hz (field_of_asks hw ha)
  · have hp : w.extractLsb' 30 2 = 3#2 := hdebug.elim And.left And.left
    obtain ⟨op, hop, h₀, h₃, h₇⟩ := rows_debug r hr (hp ▸ field_of_hits hw 30 2)
    have ho : (w.extractLsb' 26 4).toNat = op.val := by
      rw [field_of_asks hw hop]
      exact Nat.mod_eq_of_lt (by omega)
    rw [ho] at hdebug
    rcases hdebug with ⟨-, h⟩ | ⟨-, ⟨h, hne⟩ | ⟨h, hne⟩ | ⟨h, hne⟩⟩
    · omega
    · exact hne (field_of_asks hw (h₀ h))
    · exact hne (field_of_asks hw (h₃ h))
    · exact hne (field_of_asks hw (h₇ h))

theorem firstMatch_eq (w : Word) : (decode w).toOption.map Instr.rowIndex = firstMatch w := by
  symm
  cases hd : decode w with
  | error e => exact List.findIdx?_eq_none_iff.mpr fun r hr => not_hits_of_error hd hr
  | ok i =>
    obtain ⟨hlt, hrow⟩ := opcodeRow_eq i
    refine List.findIdx?_eq_some_iff_getElem.mpr ⟨hlt, hrow ▸ hits_of_decode hd, fun k hk => ?_⟩
    exact not_hits_earlier hd ⟨k, hk.trans hlt⟩ hk

theorem overlapping_rows {j k : Nat} (hj : j < opcodeTable.length) (hk : k < opcodeTable.length) (hjk : j < k)
    (h : Compatible opcodeTable[j] opcodeTable[k]) : k = 14 ∨ k = 30 ∨ j = 22 ∨ j = 28 := by
  rcases compatible_rows ⟨k, hk⟩ ⟨j, hj⟩ hjk h with ⟨hm, -⟩ | ⟨hm, -⟩ | ⟨hm, -⟩ | ⟨hm, -⟩
  · exact .inl hm
  · exact .inr (.inl hm)
  · exact .inr (.inr (.inl hm))
  · exact .inr (.inr (.inr hm))

/-- Settles O4: first match by `firstMatch_eq`; two rows that match one word are compatible rows of the table. -/
theorem decodingIsFirstMatchOfTheTable : Obligations.DecodingIsFirstMatchOfTheTable := by
  refine ⟨firstMatch_eq, fun w j k r q hne hj hk hr hq => ?_⟩
  obtain ⟨hj', rfl⟩ := List.getElem?_eq_some_iff.mp hj
  obtain ⟨hk', rfl⟩ := List.getElem?_eq_some_iff.mp hk
  rcases Nat.lt_or_gt_of_ne hne with h | h
  · have := overlapping_rows hj' hk' h (compatible_of_hits hr hq)
    omega
  · have := overlapping_rows hk' hj' h (compatible_of_hits hq hr)
    omega

/-! ### The tick (30_encoding.md R72, 40_transactions.md R104) -/

theorem tickWord_ofNat (fe fr : BitVec 8) (mu : BitVec 3) (rn : Bool) :
    BitVec.ofNat 32 (0x80000000 + 0x80000 * rn.toNat + 0x10000 * mu.toNat + 0x100 * fr.toNat + fe.toNat) =
      encode (.tick fe fr mu rn) := by
  have h : (tickWord fe fr mu rn).toNat =
      0x80000000 + 0x80000 * rn.toNat + 0x10000 * mu.toNat + 0x100 * fr.toNat + fe.toNat := by
    simp only [tickWord, toNat_concat, BitVec.toNat_ofNat, BitVec.toNat_ofBool]
    omega
  rw [← h]
  exact (BitVec.ofNat_toNat 32 _).trans (BitVec.setWidth_eq _)

/-- Settles O25: the number is the word of the tick, which O2 decodes, and the frame is that of every
program transaction. -/
theorem tickChangesOnlyStrobedUnits : Obligations.TickChangesOnlyStrobedUnits := by
  intro fe fr mu rn s
  rw [tickWord_ofNat]
  obtain ⟨t, ht, hf⟩ := exec_program_changesOnly (i := .tick fe fr mu rn) (by simp [portOf]) s
  refine ⟨decodeOfEncodeIsIdentity _ rfl, t, ht, ?_, hf⟩
  rw [exec_tick] at ht
  cases ht
  rfl

/-- Settles O1, by running the decoder on each of the seventeen words. -/
theorem listedWordsDecode : Obligations.ListedWordsDecode := by
  unfold Obligations.ListedWordsDecode
  decide

end Sys2Proof

/-! PROOFS. The family of spec/40_transactions.md. A step is read off the equations of Laws/Step.lean; a run follows the
waiting words one by one, each of which is taken (O9); any two of a tick's units advance in either order
(`advance_comm`), so any order of all of them gives the same state. -/

namespace Sys2Proof.Machine

/-! ### Steps and runs (40_transactions.md R100, R108) -/

theorem performWord_ok {w : Word} {i : Instr} (h : decode w = .ok i) (s : State) : performWord w s = exec i s := by
  simp only [performWord, h]

theorem performWord_error {w : Word} {e : DecodeError} (h : decode w = .error e) (s : State) :
    performWord w s = refuseWord w s := by
  simp only [performWord, h]

/-- Settles O6: the fault is looked at first, then the next word is decoded. -/
theorem stepRunsTheDecodedTransaction : Obligations.StepRunsTheDecodedTransaction := by
  intro s w p hp
  refine ⟨fun r hf => step_of_fault hf, fun hf => ⟨fun i hd => ?_, fun e hd => ?_⟩⟩
  · rw [step_of_word hf hp, performWord_ok hd]
  · rw [step_of_word hf hp, performWord_error hd, refuseWord_eq]

/-- Settles O8: with no word left the step is `endOfRun`, which looks at the bracket alone. -/
theorem endOfTheRun : Obligations.EndOfTheRun := by
  intro s hf hp
  rw [step_of_empty hf hp]
  refine ⟨fun hb => ⟨if_pos hb, fun ⟨_, _, hc⟩ => ?_⟩, fun hb => ⟨if_neg ?_, hp, hf, hb⟩⟩
  · exact Bool.false_ne_true (hc.symm.trans hb)
  · simp [hb]

/-- Settles O10, by induction on the waiting words: the next one is taken (O9), and the run stops there if it left a
fault, and goes on with the others if not. -/
theorem runPerformsEveryWordOrStopsAtAFault : Obligations.RunPerformsEveryWordOrStopsAtAFault := by
  intro s hf
  induction hp : s.pending generalizing s with
  | nil => exact ⟨0, s, Nat.le_refl 0, rfl, hp, .inl ⟨rfl, hf⟩⟩
  | cons w p ih =>
    obtain ⟨u, hu, hup⟩ := everyWaitingWordIsTaken s w p hf hp
    by_cases huf : u.fault = none
    · obtain ⟨k, t, hk, hr, ht, hend⟩ := ih u huf hup
      refine ⟨k + 1, t, Nat.succ_le_succ hk, (run_of_next hu).trans hr, ht, ?_⟩
      exact hend.imp (And.imp_left (congrArg (· + 1))) (And.imp_left fun _ => k.succ_pos)
    · exact ⟨1, u, Nat.succ_le_succ p.length.zero_le, run_of_next hu, hup, .inr ⟨Nat.one_pos, huf⟩⟩

/-! ### The order of a tick's units (40_transactions.md R104) -/

/-- Two fetchers advance in either order: each reads and writes its own counter. -/
theorem advanceFetcher_comm {i j : Fin numFetchers} (h : i ≠ j) (s : State) :
    advanceFetcher i (advanceFetcher j s) = advanceFetcher j (advanceFetcher i s) := by
  have hv := Fin.val_ne_of_ne h
  simp [advanceFetcher, State.mapRegs, ChipRegisters.setCounter, State.next8At, Vector.getElem_set_ne, hv, hv.symm,
    Vector.set_comm _ _ hv]

/-- Two accumulators advance in either order: each reads and writes its own, and no advance writes an increment. -/
theorem advanceFractional_comm {i j : Fin numFetchers} (h : i ≠ j) (s : State) :
    advanceFractional i (advanceFractional j s) = advanceFractional j (advanceFractional i s) := by
  have hv := Fin.val_ne_of_ne h
  simp [advanceFractional, State.mapRegs, ChipRegisters.setFracCounter, State.next8At, Vector.getElem_set_ne, hv,
    hv.symm, Vector.set_comm _ _ hv]

/-- Two voices advance in either order: each reads and writes its own counter, and no advance writes a frequency. -/
theorem advanceMusic_comm {v w : Fin numVoices} (h : v ≠ w) (s : State) :
    advanceMusic v (advanceMusic w s) = advanceMusic w (advanceMusic v s) := by
  have hv := Fin.val_ne_of_ne h
  simp [advanceMusic, State.mapRegs, ChipRegisters.setMusicCounter, Vector.getElem_set_ne, hv, hv.symm,
    Vector.set_comm _ _ hv]

/-- Any two units advance in either order: units of different kinds share no register that either of them writes. -/
theorem TickUnit.advance_comm {u v : TickUnit} (h : u ≠ v) (s : State) :
    u.advance (v.advance s) = v.advance (u.advance s) := by
  cases u with
  | fetcher i =>
    cases v with
    | fetcher j => exact advanceFetcher_comm (mt (congrArg _) h) s
    | _ => rfl
  | fractional i =>
    cases v with
    | fractional j => exact advanceFractional_comm (mt (congrArg _) h) s
    | _ => rfl
  | voice i =>
    cases v with
    | voice j => exact advanceMusic_comm (mt (congrArg _) h) s
    | _ => rfl
  | generator =>
    cases v with
    | generator => exact absurd rfl h
    | _ => rfl

/-- Advance a unit if the transaction strobes it. -/
def advanceIf (i : Instr) (s : State) (u : TickUnit) : State := if strobes u i then u.advance s else s

theorem advanceIf_comm (i : Instr) (s : State) (u v : TickUnit) :
    advanceIf i (advanceIf i s u) v = advanceIf i (advanceIf i s v) u := by
  by_cases h : u = v
  · rw [h]
  · unfold advanceIf
    split_ifs
    · exact (TickUnit.advance_comm h s).symm
    all_goals rfl

/-- The twenty units one after the other are the four lines of R104. -/
theorem foldl_tickOrder (fe fr : BitVec 8) (mu : BitVec 3) (rn : Bool) (s : State) :
    tickOrder.foldl (advanceIf (.tick fe fr mu rn)) s = tickUnits fe fr mu rn s := by
  simp only [tickOrder, List.foldl_append, List.foldl_map]
  rfl

/-- Settles O29: neighbours may be exchanged, so every order gives what the tick's own order gives. -/
theorem tickOrderIsIrrelevant : Obligations.TickOrderIsIrrelevant := by
  intro fe fr mu rn s us hus
  calc us.foldl (advanceIf (.tick fe fr mu rn)) s
    _ = tickOrder.foldl (advanceIf (.tick fe fr mu rn)) s :=
        hus.foldl_eq' (fun u _ v _ t => advanceIf_comm _ t u v) s
    _ = tickUnits fe fr mu rn s := foldl_tickOrder fe fr mu rn s

end Sys2Proof.Machine

/-! PROOFS. The family of spec/41_data_fetchers.md. A register's bus word is the number the spec gives
(`decode_regWrite`, `decode_regRead`). Of all transactions only `DFLOW i` and a strobing tick move the counter of
fetcher `i` (`exec_counter`), and only `DFTOP i` and `DFBOT i` its window (`FixedWindow.keep`); the wrap laws follow by
induction over the sequence. -/

namespace Sys2Proof.Machine

variable {i : Fin numFetchers} {j : Instr} {s t : State}

/-! ### Register words as numbers (30_encoding.md R71, R74) -/

/-- The write word of register `x` of the block at `base`, as a number. -/
theorem decode_regWrite {n base k : Nat} {x : Fin n} {d : Byte} (hw : j.wf = true)
    (he : encode j = writeWord (regAddr base x) d) (hb : base + n ≤ 4096)
    (hk : k = 0x40000000 + 256 * (base + x.val) + d.toNat) : decode (BitVec.ofNat 32 k) = .ok j := by
  have hn : BitVec.ofNat 32 k = encode j := by
    rw [he]
    exact ofNat_busWord 1#2 _ d k (by rw [hk, regAddr_toNat base x hb, BitVec.toNat_ofNat]; omega)
  rw [hn]
  exact decodeOfEncodeIsIdentity j hw

/-- A read word of register `x` of the block at `base`, as a number; its data field `d` is ignored. -/
theorem decode_regRead {n base k : Nat} {x : Fin n} {d : Byte} (hw : j.wf = true)
    (he : encode j = readWord (regAddr base x)) (hb : base + n ≤ 4096)
    (hk : k = 256 * (base + x.val) + d.toNat) : decode (BitVec.ofNat 32 k) = .ok j := by
  have hr : decode (encode j) = .ok (decodeRead (regAddr base x)) := by
    rw [he]
    exact decode_busRead _ 0#8
  rw [decode_readNumber (regAddr base x) d k (by rw [hk, regAddr_toNat base x hb]; omega), ← hr]
  exact decodeOfEncodeIsIdentity j hw

/-! ### The register transactions (41_data_fetchers.md R121 to R126) -/

/-- An update that gives one element a value and keeps the others, as the `get_set…` lemmas say it, is a frame. -/
theorem changesOnly_of_get {g : ChipRegisters → ChipRegisters} {f : Field} {v : Nat} {x : Result}
    (h : ∀ r f', (g r).get f' = if f' = f then v else r.get f') :
    ChangesOnly (· = f) s { s.mapRegs g with result := x } :=
  mapRegs_changesOnly s f g x fun f' hf' => (h s.regs f').trans (if_neg hf')

/-- Settles O30: each write is a single-element update of the register file. -/
theorem fetcherRegisterWrites : Obligations.FetcherRegisterWrites := by
  intro i d s
  refine ⟨⟨decode_regWrite rfl rfl (by decide) (by omega), _, rfl, rfl, Vector.getElem_set_self _, ?_⟩,
    ⟨decode_regWrite rfl rfl (by decide) (by omega), _, rfl, rfl, Vector.getElem_set_self _, ?_⟩,
    ⟨decode_regWrite rfl rfl (by decide) (by omega), _, rfl, rfl, Vector.getElem_set_self _, ?_⟩⟩
  · exact changesOnly_of_get fun r f => r.get_setCounter f i d
  · exact changesOnly_of_get fun r f => r.get_setTop f i d
  · exact changesOnly_of_get fun r f => r.get_setBottom f i d

/-- Settles O31: the fetch address stays inside the display RAM, and the read changes the result alone. -/
theorem dfdataReturnsTheFetchedByte : Obligations.DfdataReturnsTheFetchedByte := fun i d s =>
  ⟨decode_regRead (d := d) rfl rfl (by decide) (by omega), rfl, faddr_lt s i, exec_dfdata i s⟩

/-- Settles O32: the write is a single-byte update of the display RAM. -/
theorem dfwriteStoresAtTheFetchAddress : Obligations.DfwriteStoresAtTheFetchAddress := by
  intro i d s
  refine ⟨decode_regWrite rfl rfl (by decide) (by omega), _, exec_dfwrite i d s, rfl, ?_, fun a ha => ?_, ?_⟩
  · exact (displayByte_setByte s _ _ d).trans (if_pos rfl)
  · exact (displayByte_setByte s _ a d).trans (if_neg ha)
  · exact changesOnly_of_get fun r f => r.get_setByte f (s.faddr i) d

/-! ### One advance (41_data_fetchers.md R120) -/

/-- Under `WINDOW` the successor of `tops[i]` is `bottoms[i]`. -/
theorem next8At_of_top {c : Byte} (hw : s.cfg.fetchWrap = .window) (hc : c = s.regs.tops[i]) :
    s.next8At i c = s.regs.bottoms[i] :=
  BitVec.eq_of_toNat_eq ((next8At_toNat s i c).trans (if_pos ⟨hw, congrArg BitVec.toNat hc⟩))

/-- In every other case the successor is the next number modulo 256. -/
theorem next8At_of_not_top {c : Byte} (h : s.cfg.fetchWrap = .mod256 ∨ c ≠ s.regs.tops[i]) :
    (s.next8At i c).toNat = (c.toNat + 1) % 256 := by
  refine (next8At_toNat s i c).trans (if_neg fun ⟨hw, hc⟩ => ?_)
  rcases h with h | h
  · simp [h] at hw
  · exact h (BitVec.eq_of_toNat_eq hc)

/-- Settles O26, from the counter after a tick and the two cases of its successor. -/
theorem tickAdvancesFetchers : Obligations.TickAdvancesFetchers := by
  intro fe fr mu rn s
  refine ⟨_, exec_tick s fe fr mu rn, fun i => ?_⟩
  have hc := tickedRegs_counter s fe fr mu rn i
  refine ⟨fun hf => hc.trans (if_neg (ne_true_of_eq_false hf)), fun hf => ?_⟩
  rw [if_pos hf] at hc
  exact ⟨fun hw ht => hc.trans (next8At_of_top hw ht),
    fun h => (congrArg BitVec.toNat hc).trans (next8At_of_not_top h)⟩

/-! ### What any transaction does to a fetcher -/

/-- Only `DFLOW i` and a strobe of fetcher `i` may write its counter (10_state.md R40). -/
theorem mayWrite_counter (h : mayWrite j s (.counters i)) :
    (∃ d, j = .dflow i d) ∨ strobes (.fetcher i) j = true := by
  cases j with
  | dflow k d =>
    cases h
    exact .inl ⟨d, rfl⟩
  | tick fe fr mu rn =>
    refine .inr ?_
    simpa [mayWrite, strobes] using h
  | _ => simp [mayWrite] at h

/-- Only `DFTOP i` may write `tops[i]` (10_state.md R40). -/
theorem mayWrite_top (h : mayWrite j s (.tops i)) : ∃ d, j = .dftop i d := by
  cases j with
  | dftop k d =>
    cases h
    exact ⟨d, rfl⟩
  | _ => simp [mayWrite] at h

/-- Only `DFBOT i` may write `bottoms[i]` (10_state.md R40). -/
theorem mayWrite_bottom (h : mayWrite j s (.bottoms i)) : ∃ d, j = .dfbot i d := by
  cases j with
  | dfbot k d =>
    cases h
    exact ⟨d, rfl⟩
  | _ => simp [mayWrite] at h

theorem tick_of_strobes {u : TickUnit} (h : strobes u j = true) : ∃ fe fr mu rn, j = .tick fe fr mu rn := by
  cases j with
  | tick fe fr mu rn => exact ⟨fe, fr, mu, rn, rfl⟩
  | _ => cases h

/-- A transaction other than `DFLOW i` advances the counter if it strobes fetcher `i`, and keeps it if not. -/
theorem exec_counter (hj : ∀ d, j ≠ .dflow i d) (h : exec j s = .next t) :
    t.regs.counters[i] =
      if strobes (.fetcher i) j = true then s.next8At i s.regs.counters[i] else s.regs.counters[i] := by
  split
  · rename_i hs
    obtain ⟨fe, fr, mu, rn, rfl⟩ := tick_of_strobes hs
    rw [exec_tick] at h
    cases h
    exact (tickedRegs_counter s fe fr mu rn i).trans (if_pos hs)
  · rename_i hs
    refine BitVec.eq_of_toNat_eq (onlyNamedElementsChange j s t h (.counters i) fun hm => ?_)
    rcases mayWrite_counter hm with ⟨d, hd⟩ | hm
    · exact hj d hd
    · exact hs hm

theorem performAll_of_next {is : List Instr} (h : exec j s = .next t) : performAll (j :: is) s = performAll is t := by
  simp only [performAll, h]

/-! ### Wrap laws under `MOD256` (41_data_fetchers.md R127) -/

/-- The wrap rule is `MOD256`, and the counter of fetcher `i` is `k` steps after `c`. -/
structure CountsFrom (i : Fin numFetchers) (c : Byte) (k : Nat) (s : State) : Prop where
  wrap    : s.cfg.fetchWrap = .mod256
  counter : s.regs.counters[i].toNat = (c.toNat + k) % 256

theorem CountsFrom.of_exec {c : Byte} {k : Nat} (hc : CountsFrom i c k s) (hj : ∀ d, j ≠ .dflow i d)
    (h : exec j s = .next t) : CountsFrom i c (k + if strobes (.fetcher i) j = true then 1 else 0) t where
  wrap := exec_keeps_cfg h ▸ hc.wrap
  counter := by
    have hk := hc.counter
    rw [exec_counter hj h]
    split
    · rw [next8At_of_not_top (.inl hc.wrap)]
      omega
    · exact hk

/-- Settles O34: an advance under `MOD256` adds one modulo 256, and nothing else in the sequence moves the counter. -/
theorem fetcherCountsModulo256 : Obligations.FetcherCountsModulo256 := by
  intro is i s hw hd
  have hlt := s.regs.counters[i].isLt
  obtain ⟨t, ht, hc⟩ := performAll_induct s (.fetcher i) (CountsFrom i s.regs.counters[i]) is
    ⟨hw, (Nat.mod_eq_of_lt hlt).symm⟩ fun j hj k t hc =>
      (exec_completes j t).imp fun _ ht => ⟨ht, hc.of_exec (fun d => ne_of_mem_of_not_mem hj (hd d)) ht⟩
  refine ⟨t, ht, hc.counter, fun hk => BitVec.eq_of_toNat_eq ?_⟩
  rw [hc.counter, hk, Nat.add_mod_right, Nat.mod_eq_of_lt hlt]

/-! ### Wrap laws under `WINDOW` (41_data_fetchers.md R120, R127) -/

/-- The wrap rule is `WINDOW`, and the window of fetcher `i` is `b..e`. -/
structure FixedWindow (i : Fin numFetchers) (b e : Byte) (s : State) : Prop where
  wrap   : s.cfg.fetchWrap = .window
  bottom : s.regs.bottoms[i] = b
  top    : s.regs.tops[i] = e

/-- The transaction writes neither the counter of fetcher `i` nor its window. -/
def SparesFetcher (i : Fin numFetchers) (j : Instr) : Prop := ∀ d, j ≠ .dflow i d ∧ j ≠ .dftop i d ∧ j ≠ .dfbot i d

theorem sparesFetcher_of_mem {is : List Instr} (h : ∀ d, .dflow i d ∉ is ∧ .dftop i d ∉ is ∧ .dfbot i d ∉ is)
    (hj : j ∈ is) : SparesFetcher i j := fun d =>
  (h d).imp (ne_of_mem_of_not_mem hj) (And.imp (ne_of_mem_of_not_mem hj) (ne_of_mem_of_not_mem hj))

namespace FixedWindow

variable {b e : Byte}

theorem keep (w : FixedWindow i b e s) (hj : SparesFetcher i j) (h : exec j s = .next t) : FixedWindow i b e t where
  wrap := exec_keeps_cfg h ▸ w.wrap
  bottom := by
    rw [← w.bottom]
    refine BitVec.eq_of_toNat_eq (onlyNamedElementsChange j s t h (.bottoms i) fun hm => ?_)
    obtain ⟨d, hd⟩ := mayWrite_bottom hm
    obtain ⟨-, -, hb⟩ := hj d
    exact hb hd
  top := by
    rw [← w.top]
    refine BitVec.eq_of_toNat_eq (onlyNamedElementsChange j s t h (.tops i) fun hm => ?_)
    obtain ⟨d, hd⟩ := mayWrite_top hm
    obtain ⟨-, ht, -⟩ := hj d
    exact ht hd

/-- The successor of a number in a fixed window. -/
theorem next8At_toNat (w : FixedWindow i b e s) (c : Byte) :
    (s.next8At i c).toNat = if c.toNat = e.toNat then b.toNat else (c.toNat + 1) % 256 := by
  rw [Machine.next8At_toNat, w.top, w.bottom]
  simp only [w.wrap, true_and]

/-- Inside the window an advance stays inside, and adds one modulo the size of the window. -/
theorem next_inside (w : FixedWindow i b e s) {c : Byte} (hb : b.toNat ≤ c.toNat) (he : c.toNat ≤ e.toNat) :
    b.toNat ≤ (s.next8At i c).toNat ∧ (s.next8At i c).toNat ≤ e.toNat ∧
    (s.next8At i c).toNat ≡ c.toNat + 1 [MOD e.toNat - b.toNat + 1] := by
  rw [w.next8At_toNat]
  split
  · rename_i hc
    refine ⟨Nat.le_refl _, Nat.le_trans hb he, ?_⟩
    have hn : c.toNat + 1 = b.toNat + (e.toNat - b.toNat + 1) := by omega
    rw [hn]
    exact Nat.add_modEq_right.symm
  · have hlt := e.isLt
    rw [Nat.mod_eq_of_lt (by omega)]
    exact ⟨by omega, by omega, rfl⟩

/-- Outside the window, so not at `e`, an advance brings the counter one nearer to `b`. -/
theorem next_outside (w : FixedWindow i b e s) {c : Byte} (hbe : b.toNat ≤ e.toNat)
    (hc : ¬ (b.toNat ≤ c.toNat ∧ c.toNat ≤ e.toNat)) : (b - c).toNat = (b - s.next8At i c).toNat + 1 := by
  rw [BitVec.toNat_sub, BitVec.toNat_sub, w.next8At_toNat, if_neg (by omega)]
  omega

/-- With at least as many advances to come as lead from the counter up to `b`, the counter is inside the window at some
point. -/
theorem enters (hbe : b.toNat ≤ e.toNat) {is : List Instr} (hj : ∀ j ∈ is, SparesFetcher i j)
    (w : FixedWindow i b e s) (ha : (b - s.regs.counters[i]).toNat ≤ advances (.fetcher i) is) :
    ∃ n t, n ≤ is.length ∧ performAll (is.take n) s = .next t ∧ b.toNat ≤ t.regs.counters[i].toNat ∧
      t.regs.counters[i].toNat ≤ e.toNat := by
  induction is generalizing s with
  | nil =>
    have hc : b = s.regs.counters[i] := sub_eq_zero.mp (BitVec.eq_of_toNat_eq (Nat.le_zero.mp ha))
    exact ⟨0, s, Nat.le_refl _, rfl, hc ▸ Nat.le_refl _, hc ▸ hbe⟩
  | cons j is ih =>
    by_cases hin : b.toNat ≤ s.regs.counters[i].toNat ∧ s.regs.counters[i].toNat ≤ e.toNat
    · exact ⟨0, s, Nat.zero_le _, rfl, hin⟩
    · have hs := hj j List.mem_cons_self
      obtain ⟨u, hu⟩ := exec_completes j s
      have hau : (b - u.regs.counters[i]).toNat ≤ advances (.fetcher i) is := by
        have hn := w.next_outside hbe hin
        rw [advances_cons] at ha
        rw [exec_counter (fun d => (hs d).1) hu]
        split_ifs at ha ⊢ <;> omega
      obtain ⟨n, t, hn, ht, hit⟩ := ih (fun k hk => hj k (List.mem_cons_of_mem j hk)) (w.keep hs hu) hau
      exact ⟨n + 1, t, Nat.succ_le_succ hn, (performAll_of_next hu).trans ht, hit⟩

end FixedWindow

/-- The window of fetcher `i` is fixed, its counter is inside, and `k` steps after `c` modulo the window's size. -/
structure CyclesFrom (i : Fin numFetchers) (b e c : Byte) (k : Nat) (s : State) : Prop extends FixedWindow i b e s where
  above : b.toNat ≤ s.regs.counters[i].toNat
  below : s.regs.counters[i].toNat ≤ e.toNat
  cycle : s.regs.counters[i].toNat ≡ c.toNat + k [MOD e.toNat - b.toNat + 1]

theorem CyclesFrom.of_exec {b e c : Byte} {k : Nat} (hc : CyclesFrom i b e c k s) (hj : SparesFetcher i j)
    (h : exec j s = .next t) : CyclesFrom i b e c (k + if strobes (.fetcher i) j = true then 1 else 0) t := by
  have hn := exec_counter (fun d => (hj d).1) h
  split_ifs at hn ⊢
  · obtain ⟨hb, he, hm⟩ := hc.next_inside hc.above hc.below
    rw [← hn] at hb he hm
    exact ⟨hc.keep hj h, hb, he, hm.trans (hc.cycle.add_right 1)⟩
  · exact ⟨hc.keep hj h, hn ▸ hc.above, hn ▸ hc.below, hn ▸ hc.cycle⟩

/-- Settles O35: the counter stays inside and moves with the advances modulo the window's size. -/
theorem fetcherStaysInItsWindow : Obligations.FetcherStaysInItsWindow := by
  intro is i s hw hd hb he
  obtain ⟨t, ht, hc⟩ := performAll_induct s (.fetcher i)
    (CyclesFrom i s.regs.bottoms[i] s.regs.tops[i] s.regs.counters[i]) is ⟨⟨hw, rfl, rfl⟩, hb, he, rfl⟩
    fun j hj k t hc => (exec_completes j t).imp fun _ ht => ⟨ht, hc.of_exec (sparesFetcher_of_mem hd hj) ht⟩
  refine ⟨t, ht, hc.above, hc.below, fun hk => BitVec.eq_of_toNat_eq ?_⟩
  have hm := (hk ▸ hc.cycle).trans Nat.add_modEq_right
  have hbt := hc.above
  have het := hc.below
  exact hm.eq_of_abs_lt (abs_lt.mpr (by omega))

/-- Settles O36: 256 advances are more than lead from any counter up to `bottoms[i]`. -/
theorem fetcherEntersItsWindow : Obligations.FetcherEntersItsWindow := by
  intro is i s hw hd hbe ha
  refine FixedWindow.enters hbe (fun j hj => sparesFetcher_of_mem hd hj) ⟨hw, rfl, rfl⟩ ?_
  rw [ha]
  exact (BitVec.isLt _).le

end Sys2Proof.Machine

/-! PROOFS. The family of spec/42_fractional.md. One advance in numbers is `fracNext_fraction` and the two cases of the
integer part, without and with a carry; under `MOD256` the three are one addition modulo 65536
(`fracNext_of_mod256`). Of all transactions only `FRACINT i`, `FRACINC i` and a strobing tick move accumulator `i`
(`exec_fracCounter`), and only `FRACINC i` its increment, so the wrap laws follow by induction over the sequence. -/

namespace Sys2Proof.Machine

variable {i : Fin numFetchers} {j : Instr} {s t : State}

/-! ### The register transactions (42_fractional.md R141 to R144) -/

/-- An accumulator made of an integer part and a fraction, as a number (10_state.md R24). -/
theorem toNat_accumulator (n f : Byte) : (n ++ f).toNat = 256 * n.toNat + f.toNat := by
  rw [toNat_concat]
  omega

theorem fraddr_eq (s : State) (i : Fin numFetchers) :
    s.fraddr i = s.cfg.fetchPage[i].val * 256 + s.regs.fractionalCounters[i].toNat / 256 := by
  rw [State.fraddr, pageAddr, integerOf_toNat]

theorem exec_dffrac (i : Fin 8) (s : State) :
    exec (.dffrac i) s = .next { s with result := .byte (s.displayByte (s.fraddr i)) } := rfl

/-- Settles O37: the read changes the result alone, and its address is `fraddr(i)`. -/
theorem dffracReturnsTheByteAtTheIntegerPart : Obligations.DffracReturnsTheByteAtTheIntegerPart := by
  intro i d s
  refine ⟨decode_regRead (d := d) rfl rfl (by decide) (by omega), ?_⟩
  rw [exec_dffrac, fraddr_eq]
  rfl

/-- Settles O38: the new accumulator is its integer part above a zero fraction; the frames are those of O21 and
O16. -/
theorem fractionalRegisterWrites : Obligations.FractionalRegisterWrites := by
  intro i d s
  refine ⟨⟨decode_regWrite rfl rfl (by decide) (by omega), ?_⟩,
    ⟨decode_regWrite rfl rfl (by decide) (by omega), ?_⟩⟩
  · obtain ⟨t, ht, hc⟩ := exec_program_changesOnly (i := .fracint i d) nofun s
    refine ⟨t, ht, ?_⟩
    cases ht
    refine ⟨rfl, ?_, hc⟩
    exact (congrArg BitVec.toNat (Vector.getElem_set_self _)).trans (toNat_accumulator d 0#8)
  · obtain ⟨t, ht, hc⟩ := exec_program_changesOnly (i := .fracinc i d) nofun s
    refine ⟨t, ht, ?_⟩
    cases ht
    refine ⟨rfl, Vector.getElem_set_self _, ?_, hc⟩
    rw [← integerOf_toNat]
    exact (congrArg BitVec.toNat (Vector.getElem_set_self _)).trans (toNat_accumulator _ 0#8)

/-! ### One advance (42_fractional.md R140) -/

/-- The fraction adds the increment modulo 256. -/
theorem fracNext_fraction (s : State) (i : Fin numFetchers) :
    (fracNext s i).toNat % 256 =
      (s.regs.fractionalCounters[i].toNat % 256 + s.regs.fractionalIncrements[i].toNat) % 256 := by
  rw [fracNext, toNat_accumulator, BitVec.toNat_ofNat, fractionOf_toNat]
  omega

/-- Without a carry out of the fraction the integer part stays. -/
theorem fracNext_integer_of_not_carry
    (h : s.regs.fractionalCounters[i].toNat % 256 + s.regs.fractionalIncrements[i].toNat < 256) :
    (fracNext s i).toNat / 256 = s.regs.fractionalCounters[i].toNat / 256 := by
  rw [fracNext, toNat_accumulator, BitVec.toNat_ofNat, fractionOf_toNat, if_neg (by omega), integerOf_toNat]
  omega

/-- On a carry the integer part moves by one `next8` (41_data_fetchers.md R120). -/
theorem fracNext_integer_of_carry
    (h : 256 ≤ s.regs.fractionalCounters[i].toNat % 256 + s.regs.fractionalIncrements[i].toNat) :
    (fracNext s i).toNat / 256 =
      if s.cfg.fetchWrap = .window ∧ s.regs.fractionalCounters[i].toNat / 256 = s.regs.tops[i].toNat
      then s.regs.bottoms[i].toNat else (s.regs.fractionalCounters[i].toNat / 256 + 1) % 256 := by
  rw [fracNext, toNat_accumulator, BitVec.toNat_ofNat, fractionOf_toNat, if_pos h, ← integerOf_toNat,
    ← next8At_toNat]
  omega

/-- Settles O27, from the accumulator after a tick and the cases of its integer part. -/
theorem tickAdvancesAccumulators : Obligations.TickAdvancesAccumulators := by
  intro fe fr mu rn s
  refine ⟨_, exec_tick s fe fr mu rn, fun hfe => Vector.ext fun k hk => ?_, fun i sum n hsum hn => ?_⟩
  · have hc := tickedRegs_counter s fe fr mu rn ⟨k, hk⟩
    rw [hfe, BitVec.getLsbD_zero, if_neg Bool.false_ne_true] at hc
    rw [hfe]
    exact hc
  · have hx := tickedRegs_fracCounter s fe fr mu rn i
    subst hsum hn
    refine ⟨fun hf => hx.trans (if_neg (ne_true_of_eq_false hf)), fun hf => ?_⟩
    rw [if_pos hf] at hx
    simp only [hx]
    refine ⟨fracNext_fraction s i, fracNext_integer_of_not_carry, fun h hw ht => ?_, fun h hw => ?_⟩
    · exact (fracNext_integer_of_carry h).trans (if_pos ⟨hw, ht⟩)
    · refine (fracNext_integer_of_carry h).trans (if_neg fun ⟨hw', ht⟩ => ?_)
      rcases hw with hw | hw
      · simp [hw] at hw'
      · exact hw ht

/-- Under `MOD256` an advance is one addition to the 16-bit accumulator (42_fractional.md R145 (a)). -/
theorem fracNext_of_mod256 (hw : s.cfg.fetchWrap = .mod256) :
    (fracNext s i).toNat =
      (s.regs.fractionalCounters[i].toNat + s.regs.fractionalIncrements[i].toNat) % 65536 := by
  have hf := fracNext_fraction s i
  have hx := s.regs.fractionalCounters[i].isLt
  rcases Nat.lt_or_ge (s.regs.fractionalCounters[i].toNat % 256 + s.regs.fractionalIncrements[i].toNat) 256 with h | h
  · have hn := fracNext_integer_of_not_carry h
    omega
  · have hn := fracNext_integer_of_carry h
    rw [if_neg (by simp [hw])] at hn
    omega

/-! ### What any transaction does to an accumulator -/

/-- Only `FRACINT i`, `FRACINC i` and a strobe of accumulator `i` may write it (10_state.md R40). -/
theorem mayWrite_fracCounter (h : mayWrite j s (.fractionalCounters i)) :
    (∃ d, j = .fracint i d ∨ j = .fracinc i d) ∨ strobes (.fractional i) j = true := by
  cases j with
  | fracint k d =>
    cases h
    exact .inl ⟨d, .inl rfl⟩
  | fracinc k d =>
    rcases h with h | h <;> cases h
    exact .inl ⟨d, .inr rfl⟩
  | tick fe fr mu rn =>
    refine .inr ?_
    simpa [mayWrite, strobes] using h
  | _ => simp [mayWrite] at h

/-- Only `FRACINC i` may write the increment (10_state.md R40). -/
theorem mayWrite_fracIncrement (h : mayWrite j s (.fractionalIncrements i)) : ∃ d, j = .fracinc i d := by
  cases j with
  | fracinc k d =>
    rcases h with h | h <;> cases h
    exact ⟨d, rfl⟩
  | _ => simp [mayWrite] at h

/-- The transaction writes neither accumulator `i` nor its increment. -/
def SparesAccumulator (i : Fin numFetchers) (j : Instr) : Prop := ∀ d, j ≠ .fracint i d ∧ j ≠ .fracinc i d

/-- A transaction that spares accumulator `i` advances it if it strobes it, and keeps it if not. -/
theorem exec_fracCounter (hj : SparesAccumulator i j) (h : exec j s = .next t) :
    t.regs.fractionalCounters[i] =
      if strobes (.fractional i) j = true then fracNext s i else s.regs.fractionalCounters[i] := by
  split
  · rename_i hs
    obtain ⟨fe, fr, mu, rn, rfl⟩ := tick_of_strobes hs
    rw [exec_tick] at h
    cases h
    exact (tickedRegs_fracCounter s fe fr mu rn i).trans (if_pos hs)
  · rename_i hs
    refine BitVec.eq_of_toNat_eq (onlyNamedElementsChange j s t h (.fractionalCounters i) fun hm => ?_)
    obtain ⟨d, hd⟩ := (mayWrite_fracCounter hm).resolve_right hs
    obtain ⟨hint, hinc⟩ := hj d
    exact hd.elim hint hinc

/-- A transaction that spares accumulator `i` keeps its increment. -/
theorem exec_fracIncrement (hj : SparesAccumulator i j) (h : exec j s = .next t) :
    t.regs.fractionalIncrements[i] = s.regs.fractionalIncrements[i] := by
  refine BitVec.eq_of_toNat_eq (onlyNamedElementsChange j s t h (.fractionalIncrements i) fun hm => ?_)
  obtain ⟨d, hd⟩ := mayWrite_fracIncrement hm
  exact (hj d).2 hd

/-! ### Wrap laws under `MOD256` (42_fractional.md R145) -/

/-- The wrap rule is `MOD256`, the increment of accumulator `i` is `c`, and it is `k` increments after `x`. -/
structure AccumulatesFrom (i : Fin numFetchers) (x : BitVec 16) (c : Byte) (k : Nat) (s : State) : Prop where
  wrap      : s.cfg.fetchWrap = .mod256
  increment : s.regs.fractionalIncrements[i] = c
  counter   : s.regs.fractionalCounters[i].toNat = (x.toNat + k * c.toNat) % 65536

theorem AccumulatesFrom.of_exec {x : BitVec 16} {c : Byte} {k : Nat} (ha : AccumulatesFrom i x c k s)
    (hj : SparesAccumulator i j) (h : exec j s = .next t) :
    AccumulatesFrom i x c (k + if strobes (.fractional i) j = true then 1 else 0) t where
  wrap := exec_keeps_cfg h ▸ ha.wrap
  increment := (exec_fracIncrement hj h).trans ha.increment
  counter := by
    rw [exec_fracCounter hj h]
    split
    · rw [fracNext_of_mod256 ha.wrap, ha.counter, ha.increment, Nat.mod_add_mod, Nat.add_assoc, ← Nat.succ_mul]
    · exact ha.counter

/-- Settles O39: an advance adds the increment modulo 65536, and nothing else in the sequence moves the accumulator or
its increment; 256 increments are the increment in the integer part, 65536 are none. -/
theorem accumulatorWrapLaws : Obligations.AccumulatorWrapLaws := by
  intro is i s hw hd
  have hlt := s.regs.fractionalCounters[i].isLt
  obtain ⟨t, ht, ha⟩ := performAll_induct s (.fractional i)
    (AccumulatesFrom i s.regs.fractionalCounters[i] s.regs.fractionalIncrements[i]) is
    ⟨hw, rfl, by rw [Nat.zero_mul, Nat.add_zero, Nat.mod_eq_of_lt hlt]⟩ fun j hj k t ha =>
      (exec_completes j t).imp fun _ ht =>
        ⟨ht, ha.of_exec (fun d => (hd d).imp (ne_of_mem_of_not_mem hj) (ne_of_mem_of_not_mem hj)) ht⟩
  have hc := ha.counter
  refine ⟨t, ht, hc, fun hk => ?_, fun hk => BitVec.eq_of_toNat_eq ?_⟩
  · rw [hk] at hc
    refine ⟨BitVec.eq_of_toNat_eq ?_, BitVec.eq_of_toNat_eq ?_⟩
    · rw [fractionOf_toNat, fractionOf_toNat]
      omega
    · rw [BitVec.toNat_add, integerOf_toNat, integerOf_toNat]
      omega
  · rw [hc, hk, Nat.add_mul_mod_self_left, Nat.mod_eq_of_lt hlt]

end Sys2Proof.Machine

/-! PROOFS. The family of spec/43_music_mixer.md. A voice's registers are written by single-element updates; a table
entry is four little-endian bytes that fit the 32-bit frequency (`noteEntry_toNat`). A read of the mixer changes the
result alone; its addresses and its sum are bounded by the widths of their parts (`waddr_le`, `amplitude_le`). A tick's
voices and generator are read off the register file `tickedRegs`. -/

namespace Sys2Proof.Machine

/-! ### One advance (43_music_mixer.md R160, 44_random.md R180) -/

/-- The step of the generator as one exclusive or, with a mask that is zero while bit 10 is clear. -/
theorem lfsrStep_eq_xor (r : Word) :
    lfsrStep r = (r >>> 11 ||| r <<< 21) ^^^ (if r.getLsbD 10 = true then 0x10ADAB1E#32 else 0#32) := by
  unfold lfsrStep
  split
  · rfl
  · exact BitVec.xor_zero.symm

/-- Settles O28, from the music counters and the generator after a tick. -/
theorem tickAdvancesVoicesAndGenerator : Obligations.TickAdvancesVoicesAndGenerator := by
  intro fe fr mu rn s
  refine ⟨_, exec_tick s fe fr mu rn, fun v => ?_, ?_⟩
  · rw [← BitVec.toNat_add, ← apply_ite BitVec.toNat]
    exact congrArg BitVec.toNat (tickedRegs_musicCounter s fe fr mu rn v)
  · rw [← lfsrStep_eq_xor]
    rfl

/-! ### The registers of a voice (43_music_mixer.md R163, R164) -/

/-- Settles O40: the write is a single-element update, with the low four bits of the byte. -/
theorem waveformSelectsTheTable : Obligations.WaveformSelectsTheTable := by
  intro v d s
  refine ⟨decode_regWrite rfl rfl (by decide) (by omega), _, rfl, rfl, ?_, ?_⟩
  · exact (congrArg BitVec.toNat (Vector.getElem_set_self _)).trans (BitVec.extractLsb'_toNat 0 4 d)
  · exact changesOnly_of_get fun r f => r.get_setMusicWaveform f v (d.extractLsb' 0 4)

/-- A number of `n` bytes fits `n` bytes. -/
theorem Memory.readLE_lt (m : Memory) (a n : Nat) : Memory.readLE m a n < 256 ^ n := by
  induction n generalizing a with
  | zero => exact Nat.one_pos
  | succ n ih =>
    have hb := (Memory.read m a).isLt
    have hn := ih (a + 1)
    rw [Memory.readLE, Nat.pow_succ]
    omega

/-- Four bytes of a memory as one number, the byte at the lowest address the least significant (20_memory.md R55). -/
theorem Memory.readLE_four (m : Memory) (a : Nat) :
    Memory.readLE m a 4 = (Memory.read m a).toNat + 256 * (Memory.read m (a + 1)).toNat +
      65536 * (Memory.read m (a + 2)).toNat + 16777216 * (Memory.read m (a + 3)).toNat := by
  simp only [Memory.readLE, Nat.add_assoc, Nat.reduceAdd]
  omega

/-- No bit of a table entry is lost in the 32-bit register. -/
theorem noteEntry_toNat (m : Memory) (d : Byte) :
    (BitVec.ofNat 32 (Memory.readLE m (noteAddr d) 4)).toNat = Memory.readLE m (noteAddr d) 4 :=
  (BitVec.toNat_ofNat _ 32).trans (Nat.mod_eq_of_lt (Memory.readLE_lt m (noteAddr d) 4))

/-- The four bytes of a table entry stay inside the display RAM (20_memory.md R52). -/
theorem noteAddr_lt (d : Byte) : noteAddr d + 3 < ramSize := by
  have := d.isLt
  simp only [noteAddr, freqBase, ramSize]
  omega

/-- Settles O41: the write is a single-element update, with the four bytes of the table entry. -/
theorem noteLoadsTheFrequency : Obligations.NoteLoadsTheFrequency := by
  intro v d s
  have ha (k : Nat) : noteAddr d + k = 0x1000 + k + 4 * d.toNat := Nat.add_right_comm _ _ _
  refine ⟨decode_regWrite rfl rfl (by decide) (by omega), noteAddr_lt d, _, rfl, rfl, ?_, ?_⟩
  · refine (congrArg BitVec.toNat (Vector.getElem_set_self _)).trans ?_
    rw [noteEntry_toNat, Memory.readLE_four, ha 1, ha 2, ha 3]
    rfl
  · exact changesOnly_of_get fun r f => r.get_setMusicFrequency f v _

/-! ### Samples and the mixer (43_music_mixer.md R161, R162, R165, R166) -/

/-- The sample index is the counter's top five bits. -/
theorem sampleIndex_toNat (s : State) (v : Fin numVoices) :
    (s.sampleIndex v).toNat = s.regs.musicCounters[v].toNat / 2 ^ 27 := by
  have := s.regs.musicCounters[v].isLt
  simp only [State.sampleIndex, BitVec.extractLsb'_toNat, Nat.shiftRight_eq_div_pow]
  omega

theorem waddr_eq (s : State) (v : Fin numVoices) :
    s.waddr v = 32 * s.regs.musicWaveforms[v].toNat + (s.sampleIndex v).toNat := by
  simp only [State.waddr, waveBase, Nat.zero_add]

/-- Sixteen tables of 32 samples end at 0x1FF. -/
theorem waddr_le (s : State) (v : Fin numVoices) : s.waddr v ≤ 0x1FF := by
  have hw := s.regs.musicWaveforms[v].isLt
  have hi := (s.sampleIndex v).isLt
  rw [waddr_eq]
  omega

/-- Three samples of at most 255 each. -/
theorem amplitude_le (s : State) : s.amplitude ≤ 765 := by
  have h₀ := (s.sample 0).isLt
  have h₁ := (s.sample 1).isLt
  have h₂ := (s.sample 2).isLt
  simp only [State.amplitude]
  omega

theorem exec_amplitude (s : State) :
    exec .amplitude s = .next { s with result := .byte (BitVec.ofNat 8 s.amplitude) } := rfl

/-- Settles O42: the read changes the result alone, and a byte holds the amplitude modulo 256. -/
theorem amplitudeReturnsTheLowByteOfTheSum : Obligations.AmplitudeReturnsTheLowByteOfTheSum := by
  intro d s
  refine ⟨decode_readNumber 0x004#12 d _ rfl, fun v => ?_, rfl, amplitude_le s, ?_⟩
  · exact ⟨sampleIndex_toNat s v, waddr_eq s v, waddr_le s v, rfl⟩
  · exact ⟨_, exec_amplitude s, BitVec.toNat_ofNat _ 8⟩

end Sys2Proof.Machine

/-! PROOFS. The family of spec/44_random.md. A rotation is undone by the rotation of the remaining distance
(`rotr32_rotr32`), and the feedback constant leaves bit 31 alone, so bit 31 after a step tells whether the constant was
added: `LFSR_STEP` has the inverse `PRIOR`. Of all transactions only `RRESET`, `RWRITE` and a strobing tick move the
generator (`exec_randomNumber`), so a sequence without writes to it iterates `LFSR_STEP`. -/

namespace Sys2Proof.Machine

variable {j : Instr} {s t : State}

/-! ### The register transactions (44_random.md R181 to R183) -/

/-- A lane in numbers (20_memory.md R55). -/
theorem laneGet_toNat (x : Word) (k : Fin 4) : (laneGet x k).toNat = x.toNat / 2 ^ (8 * k.val) % 256 := by
  rw [laneGet, BitVec.extractLsb'_toNat, Nat.shiftRight_eq_div_pow]

/-- Settles O44: the read changes the result alone; each write is a single-element update, `RWRITE`'s of one lane. -/
theorem randomRegisterAccesses : Obligations.RandomRegisterAccesses := by
  intro k d s
  refine ⟨⟨decode_regRead (d := d) rfl rfl (by decide) (by omega), _, rfl, laneGet_toNat _ k⟩,
    ⟨decode_writeNumber 0x064#12 d _ rfl, _, rfl, rfl, rfl, ?_⟩,
    ⟨decode_regWrite rfl rfl (by decide) (by omega), _, rfl, rfl, ?_, fun l hl => ?_, ?_⟩⟩
  · exact changesOnly_of_get fun r f => r.get_setRandom f rngSeed
  · exact (laneGet_laneSet _ k k d).trans (if_pos rfl)
  · exact (laneGet_laneSet _ l k d).trans (if_neg hl)
  · exact changesOnly_of_get fun r f => r.get_setRandom f (laneSet s.regs.randomNumber k d)

/-! ### The step and its inverse (44_random.md R180, R184) -/

/-- The spec's rotation is the library's (00_scope.md R9). -/
theorem rotr32_eq_rotateRight (x : Word) {n : Nat} (hn : n < 32) : rotr32 x n = x.rotateRight n := by
  rw [rotr32, BitVec.rotateRight_def, Nat.mod_eq_of_lt hn]

/-- A rotation moves bit `i + n` modulo 32 to bit `i`. -/
theorem getLsbD_rotr32 (x : Word) {n i : Nat} (hn : n < 32) (hi : i < 32) :
    (rotr32 x n).getLsbD i = x.getLsbD ((i + n) % 32) := by
  rw [rotr32_eq_rotateRight x hn, BitVec.getLsbD_rotateRight_of_lt hn, Bool.cond_decide]
  split
  · exact congrArg x.getLsbD (by omega)
  · rw [decide_eq_true hi, Bool.true_and]
    exact congrArg x.getLsbD (by omega)

/-- Two rotations that add up to a full turn. -/
theorem rotr32_rotr32 (x : Word) {m n : Nat} (hm : m < 32) (hn : n < 32) (h : m + n = 32) :
    rotr32 (rotr32 x m) n = x := by
  refine BitVec.eq_of_getLsbD_eq fun i hi => ?_
  rw [getLsbD_rotr32 _ hn hi, getLsbD_rotr32 x hm (Nat.mod_lt _ (by decide)), show ((i + n) % 32 + m) % 32 = i by omega]

/-- The feedback constant has bit 31 clear, so it does not touch that bit. -/
theorem getLsbD_xor_lfsrTaps (x : Word) : (x ^^^ lfsrTaps).getLsbD 31 = x.getLsbD 31 := by
  rw [BitVec.getLsbD_xor, show lfsrTaps.getLsbD 31 = false by decide, Bool.xor_false]

/-- Adding the feedback constant twice adds nothing. -/
theorem xor_lfsrTaps_xor_lfsrTaps (x : Word) : x ^^^ lfsrTaps ^^^ lfsrTaps = x := by
  rw [BitVec.xor_assoc, BitVec.xor_self, BitVec.xor_zero]

/-- Bit 31 after a step is bit 10 before it, the bit the step tests. -/
theorem getLsbD_lfsrStep (r : Word) : (lfsrStep r).getLsbD 31 = r.getLsbD 10 := by
  have hrot : (rotr32 r 11).getLsbD 31 = r.getLsbD 10 := getLsbD_rotr32 r (by decide) (by decide)
  unfold lfsrStep
  split
  · rw [getLsbD_xor_lfsrTaps, hrot]
  · exact hrot

/-- Bit 10 of the value before is bit 31, the bit `PRIOR` tests. -/
theorem getLsbD_lfsrPrior (r : Word) : (lfsrPrior r).getLsbD 10 = r.getLsbD 31 := by
  have hrot (x : Word) : (rotr32 x 21).getLsbD 10 = x.getLsbD 31 := getLsbD_rotr32 x (by decide) (by decide)
  unfold lfsrPrior
  split
  · rw [hrot, getLsbD_xor_lfsrTaps]
  · exact hrot r

theorem lfsrPrior_lfsrStep (r : Word) : lfsrPrior (lfsrStep r) = r := by
  rw [lfsrPrior, getLsbD_lfsrStep, lfsrStep]
  split
  · rw [xor_lfsrTaps_xor_lfsrTaps, rotr32_rotr32 r (by decide) (by decide) rfl]
  · exact rotr32_rotr32 r (by decide) (by decide) rfl

theorem lfsrStep_lfsrPrior (r : Word) : lfsrStep (lfsrPrior r) = r := by
  rw [lfsrStep, getLsbD_lfsrPrior, lfsrPrior]
  split
  · rw [rotr32_rotr32 _ (by decide) (by decide) rfl, xor_lfsrTaps_xor_lfsrTaps]
  · exact rotr32_rotr32 r (by decide) (by decide) rfl

/-- Settles O45, from the two compositions. -/
theorem lfsrStepIsABijection : Obligations.LfsrStepIsABijection := ⟨lfsrPrior_lfsrStep, lfsrStep_lfsrPrior⟩

/-- No number of steps leads from a value that is not 0 to 0, which is a fixed point of the injective step. -/
theorem lfsrStep_iterate_ne_zero {x : Word} (hx : x ≠ 0#32) (k : Nat) : lfsrStep^[k] x ≠ 0#32 := by
  have hinj : Function.Injective lfsrStep^[k] := (Function.LeftInverse.injective lfsrPrior_lfsrStep).iterate k
  have hzero : lfsrStep^[k] 0#32 = 0#32 := Function.iterate_fixed (by decide) k
  exact fun h => hx (hinj (h.trans hzero.symm))

/-- Settles O47, by evaluating the step at each listed value. -/
theorem lfsrListedValues : Obligations.LfsrListedValues := by
  unfold Obligations.LfsrListedValues
  decide

/-! ### What any transaction does to the generator -/

/-- Only `RRESET`, `RWRITE` and a strobe of the generator may write it (10_state.md R40). -/
theorem mayWrite_randomNumber (h : mayWrite j s .randomNumber) :
    (j = .rreset ∨ ∃ k d, j = .rwrite k d) ∨ strobes .generator j = true := by
  cases j with
  | rreset => exact .inl (.inl rfl)
  | rwrite k d => exact .inl (.inr ⟨k, d, rfl⟩)
  | tick fe fr mu rn =>
    refine .inr ?_
    simpa [mayWrite, strobes] using h
  | _ => simp [mayWrite] at h

/-- The transaction does not write the generator; a tick may still advance it. -/
def SparesGenerator (j : Instr) : Prop := j ≠ .rreset ∧ ∀ k d, j ≠ .rwrite k d

theorem sparesGenerator_of_mem {is : List Instr} (h : .rreset ∉ is ∧ ∀ k d, .rwrite k d ∉ is) (hj : j ∈ is) :
    SparesGenerator j :=
  h.imp (ne_of_mem_of_not_mem hj) fun hw k d => ne_of_mem_of_not_mem hj (hw k d)

/-- A transaction that spares the generator steps it if it strobes it, and keeps it if not. -/
theorem exec_randomNumber (hj : SparesGenerator j) (h : exec j s = .next t) :
    t.regs.randomNumber =
      if strobes .generator j = true then lfsrStep s.regs.randomNumber else s.regs.randomNumber := by
  split
  · rename_i hs
    obtain ⟨fe, fr, mu, rn, rfl⟩ := tick_of_strobes hs
    rw [exec_tick] at h
    cases h
    exact if_pos hs
  · rename_i hs
    refine BitVec.eq_of_toNat_eq (onlyNamedElementsChange j s t h .randomNumber fun hm => ?_)
    obtain ⟨hreset, hwrite⟩ := hj
    rcases (mayWrite_randomNumber hm).resolve_right hs with hd | ⟨k, d, hd⟩
    · exact hreset hd
    · exact hwrite k d hd

/-! ### Sequences (44_random.md R184) -/

/-- A sequence that spares the generator steps it once for each of its strobes. -/
theorem performAll_randomNumber {is : List Instr} (hj : ∀ j ∈ is, SparesGenerator j) (s : State) :
    ∃ t, performAll is s = .next t ∧
      t.regs.randomNumber = lfsrStep^[advances .generator is] s.regs.randomNumber := by
  refine performAll_induct s .generator (fun k t => t.regs.randomNumber = lfsrStep^[k] s.regs.randomNumber) is rfl
    fun j hmem k t hk => ?_
  obtain ⟨u, hu⟩ := exec_completes j t
  refine ⟨u, hu, ?_⟩
  rw [exec_randomNumber (hj j hmem) hu, hk]
  split
  · exact (Function.iterate_succ_apply' lfsrStep k _).symm
  · rfl

/-- Settles O46: both generators hold the same iterate of `LFSR_STEP`. -/
theorem randomSequences : Obligations.RandomSequences := by
  intro is is' s s' heq hl hadv
  obtain ⟨t, ht, hr⟩ := performAll_randomNumber (fun _ => sparesGenerator_of_mem (hl is (by simp))) s
  obtain ⟨t', ht', hr'⟩ := performAll_randomNumber (fun _ => sparesGenerator_of_mem (hl is' (by simp))) s'
  refine ⟨t, t', ht, ht', by rw [hr, hr', heq, hadv], fun hs => ?_⟩
  rw [hr]
  exact lfsrStep_iterate_ne_zero hs _

end Sys2Proof.Machine

/-! PROOFS. The family of spec/45_bank_and_mode.md. A hotspot access answers what `hotspotResult` says and leaves the
rest to `switchBank` (`exec_hotspotOf_next`), whose cases the laws name; the reserved reads, the ignored writes and
`ROMRD` change the result alone; a mode flag or a parameter is written by a single-element update. -/

namespace Sys2Proof.Machine

/-! ### The bank switch (45_bank_and_mode.md R201) -/

/-- Settles O48: the lock comes first, then the range; the switch itself is a single-element update. -/
theorem switchBankChecksLockThenRange : Obligations.SwitchBankChecksLockThenRange := by
  intro n s
  refine ⟨switchBank_locked s n, switchBank_invalid s n, fun hl hn => ?_⟩
  have hs : switchBank n s = (.ok, s.mapRegs (·.setBank ⟨n, hn⟩)) := switchBank_ok s ⟨n, hn⟩ hl
  have hk := switchBank_keeps s n
  rw [hs] at hk
  exact ⟨_, hs, rfl, hk, rfl⟩

/-! ### Hotspots (45_bank_and_mode.md R203) -/

theorem hotspotAddr_toNat (n : Fin bankCount) : (hotspotAddr n).toNat = 0xFF6 + n.val :=
  regAddr_toNat hotspotBase n (by decide)

/-- The hotspot addresses are decoded to the hotspots, for reads and for writes. -/
theorem decode_hotspotAddr (n : Fin bankCount) (d : Byte) :
    decodeRead (hotspotAddr n) = hotspotOf n .read ∧ decodeWrite (hotspotAddr n) d = hotspotOf n .write := by
  fin_cases n <;> exact ⟨rfl, rfl⟩

theorem decode_hotspot_read (n : Fin bankCount) (d : Byte) :
    decode (BitVec.ofNat 32 (0x000FF600 + 256 * n.val + d.toNat)) = .ok (hotspotOf n .read) := by
  rw [decode_readNumber (hotspotAddr n) d _ (by rw [hotspotAddr_toNat]; omega), (decode_hotspotAddr n d).1]

theorem decode_hotspot_write (n : Fin bankCount) (d : Byte) :
    decode (BitVec.ofNat 32 (0x400FF600 + 256 * n.val + d.toNat)) = .ok (hotspotOf n .write) := by
  rw [decode_writeNumber (hotspotAddr n) d _ (by rw [hotspotAddr_toNat]; omega), (decode_hotspotAddr n d).2]

/-- The answer of a hotspot access: a read looks up the bank selected before the access. -/
def hotspotResult (n : Fin bankCount) (s : State) : Access → Result
  | .read  => .byte (s.romRead s.regs.currentBank (hotspotAddr n))
  | .write => .nothing

theorem exec_hotspotOf_next (n : Fin bankCount) (rw : Access) (s : State) :
    exec (hotspotOf n rw) s = .next { (switchBank n.val s).2 with result := hotspotResult n s rw } := by
  rw [exec_hotspotOf]
  cases rw <;> rfl

theorem hotspotResult_read (n : Fin bankCount) (s : State) :
    hotspotResult n s .read =
      .byte (Memory.read s.cfg.progRom (s.regs.currentBank.val * 4096 + (0xFF6 + n.val))) := by
  rw [hotspotResult, State.romRead, hotspotAddr_toNat, bankSize]

/-- Settles O49: the answer is fixed by the state before, and `switchBank` selects the bank unless the lock is set. -/
theorem hotspotSwitchesTheBank : Obligations.HotspotSwitchesTheBank := by
  intro n d s
  refine ⟨decode_hotspot_read n d, decode_hotspot_write n d, fun rw =>
    ⟨_, exec_hotspotOf_next n rw s, ?_, ?_, fun hl => ?_, fun hl => ?_, ?_⟩⟩
  · rintro rfl
    exact hotspotResult_read n s
  · rintro rfl
    rfl
  · rw [switchBank_locked s n.val hl]
  · rw [switchBank_ok s n hl]
    rfl
  · exact hotspotAccess_keeps s n rw ((exec_hotspotOf s n rw).symm.trans (exec_hotspotOf_next n rw s))

/-! ### Accesses that change the result alone (45_bank_and_mode.md R202, R204, R205) -/

/-- Settles O50: no earlier row of the read map takes the address. -/
theorem romrdReturnsTheRomByte : Obligations.RomrdReturnsTheRomByte := by
  intro a d s ha
  have hm : readMapped a = false := decide_eq_false (by omega)
  refine ⟨?_, rfl⟩
  rw [decode_readNumber a d _ (by omega), decodeRead_romrd a hm]

/-- Settles O51: one register, and three blocks of registers. -/
theorem reservedReadsReturnZero : Obligations.ReservedReadsReturnZero := fun _ _ d _ =>
  ⟨⟨decode_readNumber 0x005#12 d _ rfl, rfl⟩,
    ⟨decode_regRead (d := d) rfl rfl (by decide) (by omega), rfl⟩,
    ⟨decode_regRead (d := d) rfl rfl (by decide) (by omega), rfl⟩,
    ⟨decode_regRead (d := d) rfl rfl (by decide) (by omega), rfl⟩⟩

/-- Settles O52: two single addresses, and the addresses no earlier row of the write map takes. -/
theorem ignoredWritesChangeNothing : Obligations.IgnoredWritesChangeNothing := by
  intro a d s
  refine ⟨⟨decode_writeNumber 0x057#12 d _ rfl, rfl⟩, ⟨decode_writeNumber 0x073#12 d _ rfl, rfl⟩, fun ha => ⟨?_, rfl⟩⟩
  have hm : writeMapped a = false := decide_eq_false (by omega)
  rw [decode_writeNumber a d _ (by omega), decodeWrite_wign a d hm]

/-! ### Mode flags and parameters (45_bank_and_mode.md R206, R207, R209) -/

theorem modeFlag_iff (d : Byte) : modeFlag d = true ↔ d = 0#8 := beq_iff_eq

/-- Settles O53: each write is a single-element update; a mode flag is on exactly for the byte 0. -/
theorem modeFlagAndParameterWrites : Obligations.ModeFlagAndParameterWrites := by
  intro i d s
  refine ⟨⟨decode_writeNumber 0x050#12 d _ rfl, _, rfl, rfl, modeFlag_iff d, ?_⟩,
    ⟨decode_writeNumber 0x051#12 d _ rfl, _, rfl, rfl, modeFlag_iff d, ?_⟩,
    ⟨decode_regWrite rfl rfl (by decide) (by omega), _, rfl, rfl, Vector.getElem_set_self _, ?_⟩⟩
  · exact changesOnly_of_get fun r f => r.get_setFastFetch f (modeFlag d)
  · exact changesOnly_of_get fun r f => r.get_setImmediateLDA f (modeFlag d)
  · exact changesOnly_of_get fun r f => r.get_setParameter f i d

end Sys2Proof.Machine

/-! PROOFS. The family of spec/47_debug_port.md. What each command answers, said once (`exec_dbgSnapshot`,
`exec_dbgReport`, `readRange_inside`, `readRange_outside`, `exec_dbgWriteram_inside`, `exec_dbgWriteram_outside`); a
report has one entry for each of `reportFields`, which are all the elements but the display bytes outside the RAM
(`mem_reportFields`). -/

namespace Sys2Proof.Machine

variable {i : Instr} {s t : State} {f : Field}

/-! ### The register file under debug commands (47_debug_port.md R230) -/

/-- An element that differs afterwards is one the transaction may write: O21 read backwards. -/
theorem mayWrite_of_get_ne (h : exec i s = .next t) (hne : t.regs.get f ≠ s.regs.get f) : mayWrite i s f :=
  by_contra fun hw => hne (onlyNamedElementsChange i s t h f hw)

/-- The debug commands that may write an element, with the element (10_state.md R40, column "debugger writes"). -/
theorem mayWrite_debug (hp : portOf i = .debug) (hw : mayWrite i s f) :
    (∃ a d, i = .dbgWriteram a d ∧ f = .displayImage a.toNat) ∨ (∃ n, i = .dbgForcebank n ∧ f = .currentBank) := by
  cases i with
  | dbgWriteram a d => exact .inl ⟨a, d, rfl, hw⟩
  | dbgForcebank n => exact .inr ⟨n, rfl, hw⟩
  | dbgSnapshot | dbgReadram _ _ | dbgCurrentram _ _ | dbgUnlock | dbgLock | dbgSetlock _ | dbgReport | dbgRamsize =>
    exact hw.elim
  | hotspot0 rw | hotspot1 rw | hotspot2 rw | hotspot3 rw | hotspot4 rw | hotspot5 rw =>
    exact absurd hp (accessPort_ne_debug rw)
  | _ => cases hp

theorem DebugEffect.keeps_modeFlags (he : DebugEffect s i t) :
    t.regs.fastFetch = s.regs.fastFetch ∧ t.regs.immediateLDA = s.regs.immediateLDA := by
  cases he <;> exact ⟨rfl, rfl⟩

/-- Settles O17: what a debug command changes it may write, and it may write a display byte or the bank. -/
theorem debugCommandsLeaveTheRegisterFile : Obligations.DebugCommandsLeaveTheRegisterFile := by
  intro i s t hp h
  obtain ⟨hfast, himm⟩ := (exec_debug_effect hp h).keeps_modeFlags
  exact ⟨fun f hne => mayWrite_debug hp (mayWrite_of_get_ne h hne), hfast, himm, exec_keeps_cfg h,
    exec_keeps_pending h⟩

/-! ### Snapshot and report (47_debug_port.md R231 to R233) -/

theorem exec_dbgSnapshot (s : State) : exec .dbgSnapshot s = .next { s.takeSnapshot with result := .nothing } := rfl

/-- Settles O54: `takeSnapshot` is the copy. -/
theorem snapshotCopiesTheRegisterFile : Obligations.SnapshotCopiesTheRegisterFile := fun s =>
  ⟨rfl, exec_dbgSnapshot s⟩

/-- The entries `DBG.REPORT` answers in a state. -/
def State.report (s : State) : List ReportEntry := reportFields.map (reportEntry s.regs s.snapshot)

theorem exec_dbgReport (s : State) :
    exec .dbgReport s = .next { s with result := .report s.snapTaken s.report } := rfl

@[simp] theorem State.report_fields (s : State) : s.report.map ReportEntry.field = reportFields := by
  rw [State.report, List.map_map]
  exact List.map_id _

theorem State.report_entry {e : ReportEntry} (h : e ∈ s.report) :
    e.current = s.regs.get e.field ∧ (e.changed = true ↔ s.regs.get e.field ≠ s.snapshot.get e.field) := by
  obtain ⟨f, -, rfl⟩ := List.mem_map.mp h
  exact ⟨rfl, bne_iff_ne⟩

theorem fetcherList_eq : fetcherList = List.finRange 8 := by decide

theorem voiceList_eq : voiceList = List.finRange 3 := by decide

theorem registerFields_length : registerFields.length = 61 := rfl

theorem State.report_length (s : State) : s.report.length = 61 + ramSize := by
  rw [State.report, List.length_map, reportFields, List.length_append, registerFields_length, List.length_map,
    List.length_range]

/-- Settles O55: the entries are those of the report list, each with its live value and its comparison. -/
theorem reportListsEveryElement : Obligations.ReportListsEveryElement := by
  intro s
  refine ⟨rfl, s.report, exec_dbgReport s, s.report_length, ?_, fun e => State.report_entry⟩
  rw [s.report_fields, reportFields, registerFields, fetcherList_eq, voiceList_eq, ramSize]

/-! ### A report after a snapshot (47_debug_port.md R245) -/

/-- The report list holds every element but the display bytes outside the RAM. -/
theorem mem_reportFields : f ∈ reportFields ↔ ∀ a, f = .displayImage a → a < ramSize := by
  cases f <;> simp [reportFields, registerFields, mem_fetcherList, mem_voiceList]

/-- The program writes display bytes inside the RAM only (20_memory.md R52). -/
theorem lt_ramSize_of_mayWrite {a : Nat} (hp : portOf i ≠ .debug) (hw : mayWrite i s (.displayImage a)) :
    a < ramSize := by
  cases i with
  | dfwrite j d =>
    obtain rfl := Field.displayImage.inj hw
    exact faddr_lt s j
  | dbgWriteram b d => exact absurd rfl hp
  | _ => simp [mayWrite] at hw

/-- What the program changes the report lists. -/
theorem mem_reportFields_of_program (hp : portOf i ≠ .debug) (h : exec i s = .next t)
    (hne : t.regs.get f ≠ s.regs.get f) : f ∈ reportFields := by
  refine mem_reportFields.mpr ?_
  rintro a rfl
  exact lt_ramSize_of_mayWrite hp (mayWrite_of_get_ne h hne)

/-- Settles O56: the snapshot is the register file before the write, and the write leaves the snapshot alone. -/
theorem reportAfterSnapshot : Obligations.ReportAfterSnapshot := by
  intro s t h
  rw [exec_dbgSnapshot] at h
  cases h
  refine ⟨⟨_, exec_dbgReport _, fun e he => ?_⟩, fun i u f hp hu hne hsame => ?_⟩
  · obtain ⟨-, hc⟩ := State.report_entry he
    exact Bool.eq_false_iff.mpr fun h => hc.mp h rfl
  · have hp : portOf i ≠ .debug := by simp [hp]
    obtain ⟨-, -, -, -, hsnap, htaken, -, -⟩ := programCannotReachTheDebugPort i _ u hp hu
    have hrep : exec .dbgReport u = .next { u with result := .report true u.report } := by
      rw [exec_dbgReport, htaken]
      rfl
    refine ⟨u.report, hrep, ⟨_, List.mem_map_of_mem (mem_reportFields_of_program hp hu hne), rfl⟩, fun e he => ?_⟩
    obtain ⟨-, hc⟩ := State.report_entry he
    rw [hc, hsnap]
    constructor
    · exact fun hd => by_contra fun hf => hd (hsame e.field hf)
    · rintro rfl
      exact hne

/-! ### RAM access (47_debug_port.md R234 to R236, R241) -/

@[simp] theorem Memory.bytes_length (m : Memory) (a n : Nat) : (Memory.bytes m a n).length = n := by
  rw [Memory.bytes, List.length_map, List.length_range]

theorem Memory.getElem?_bytes (m : Memory) (a : Nat) {j n : Nat} (h : j < n) :
    (Memory.bytes m a n)[j]? = some (Memory.read m (a + j)) := by
  rw [Memory.bytes, List.getElem?_map, List.getElem?_range h]
  rfl

section

variable (start count : BitVec 13)

/-- The word of a command with a range, as a number (30_encoding.md R73). -/
theorem ofNat_rangeWord (op : BitVec 4) (n : Nat)
    (h : n = 0xC0000000 + op.toNat * 67108864 + 8192 * start.toNat + count.toNat) :
    BitVec.ofNat 32 n = debugWord op (start ++ count) :=
  ofNat_debugWord op _ n (by rw [toNat_concat]; omega)

theorem readram_word :
    BitVec.ofNat 32 (0xC4000000 + 8192 * start.toNat + count.toNat) = encode (.dbgReadram start count) :=
  ofNat_rangeWord start count 1#4 _ rfl

theorem currentram_word :
    BitVec.ofNat 32 (0xC8000000 + 8192 * start.toNat + count.toNat) = encode (.dbgCurrentram start count) :=
  ofNat_rangeWord start count 2#4 _ rfl

variable (ram : Memory) (s : State)

theorem readRange_inside (h : start.toNat + count.toNat ≤ ramSize) :
    readRange ram start count s =
      .next { s with result := .bytes (Memory.bytes ram start.toNat count.toNat) } :=
  if_pos (decide_eq_true h)

theorem readRange_outside (h : ramSize < start.toNat + count.toNat) :
    readRange ram start count s =
      .next { s with result := .rejected .ramBounds start.toNat count.toNat } :=
  if_neg (by simpa [rangeInRam] using h)

end

/-- Settles O57: both reads are `readRange`, on the snapshot's RAM and on the live one. -/
theorem ramsizeAndRamReads : Obligations.RamsizeAndRamReads := by
  intro start count s
  rw [readram_word, currentram_word]
  refine ⟨⟨rfl, rfl⟩, decodeOfEncodeIsIdentity _ rfl, decodeOfEncodeIsIdentity _ rfl, fun h => ?_, fun h =>
    ⟨readRange_outside start count _ s h, readRange_outside start count _ s h⟩⟩
  exact ⟨_, _, readRange_inside start count _ s h, readRange_inside start count _ s h, Memory.bytes_length _ _ _,
    Memory.bytes_length _ _ _, fun j hj => ⟨Memory.getElem?_bytes _ _ hj, Memory.getElem?_bytes _ _ hj⟩⟩

theorem writeram_word (addr : BitVec 13) (value : Byte) :
    BitVec.ofNat 32 (0xCC000000 + 8192 * addr.toNat + value.toNat) = encode (.dbgWriteram addr value) :=
  ofNat_debugWord 3#4 _ _ (by simp only [toNat_concat, BitVec.toNat_ofNat]; omega)

theorem exec_dbgWriteram_inside (addr : BitVec 13) (value : Byte) (h : addr.toNat < ramSize) :
    exec (.dbgWriteram addr value) s =
      .next { s.mapRegs (·.setByte addr.toNat value) with result := .nothing } :=
  if_neg (Nat.not_le_of_lt h)

theorem exec_dbgWriteram_outside (addr : BitVec 13) (value : Byte) (h : ramSize ≤ addr.toNat) :
    exec (.dbgWriteram addr value) s = .next { s with result := .rejected .ramBounds addr.toNat 1 } :=
  if_pos h

/-- Settles O58: inside the RAM the command is the single-element update `setByte`. -/
theorem writeramStoresOrRejects : Obligations.WriteramStoresOrRejects := by
  intro addr value s
  rw [writeram_word]
  refine ⟨decodeOfEncodeIsIdentity _ rfl, fun h => ⟨_, exec_dbgWriteram_inside addr value h, rfl, ?_, fun a ha => ?_, ?_⟩,
    exec_dbgWriteram_outside addr value⟩
  · exact (displayByte_setByte s _ _ value).trans (if_pos rfl)
  · exact (displayByte_setByte s _ a value).trans (if_neg ha)
  · exact changesOnly_of_get fun r f => r.get_setByte f addr.toNat value

end Sys2Proof.Machine

/-! PROOFS. The family of spec/60_exceptions.md. A stop of a step is the stop of every longer run (`run_of_stop`). Of all
transactions only the three RAM requests can be rejected (`ramRequest_of_rejected`), and each of them is rejected by
its bounds check alone (`readRange_rejected`, `exec_dbgWriteram_rejected`). -/

namespace Sys2Proof.Machine

/-! ### Sticky faults (60_exceptions.md R266) -/

theorem run_of_stop {s : State} {r : Fault} (h : step s = .fault r) (k : Nat) : core.run (k + 1) s = .fault r := by
  simp only [Host.Core.run, core, h]

/-- Settles O7: the first step of the run is the stuck one. -/
theorem faultedBlockIsStuck : Obligations.FaultedBlockIsStuck := by
  intro s r hf
  refine ⟨run_of_stop (step_of_fault hf), fun ⟨_, hn, _⟩ => ?_⟩
  cases hf.symm.trans hn

/-! ### Rejected requests (60_exceptions.md R261, R263) -/

section

variable {i : Instr} {s t : State} {c : ErrorCode} {m n : Nat}

/-- A hotspot access answers nothing or the ROM byte. -/
theorem hotspotAccess_not_rejected {k : Fin bankCount} {rw : Access} (h : hotspotAccess k rw s = .next t) :
    t.result ≠ .rejected c m n := by
  cases rw <;> cases h <;> exact Result.noConfusion

/-- A lock command answers nothing on both sides of its bracket check: it completes, or it records the fault. -/
theorem bracketCheck_not_rejected {p : Prop} [Decidable p] {u v : State} {w : Option Word}
    (h : (if p then recordFault .lockMismatch w u else complete .nothing v) = .next t) :
    t.result ≠ .rejected c m n := by
  split at h <;> cases h <;> exact Result.noConfusion

/-- Only a RAM request can be rejected (60_exceptions.md R261, column "raised by"). -/
theorem ramRequest_of_rejected (h : exec i s = .next t) (hr : t.result = .rejected c m n) :
    (∃ start count, i = .dbgReadram start count ∨ i = .dbgCurrentram start count) ∨
    ∃ addr value, i = .dbgWriteram addr value := by
  cases i with
  | dbgReadram start count => exact .inl ⟨start, count, .inl rfl⟩
  | dbgCurrentram start count => exact .inl ⟨start, count, .inr rfl⟩
  | dbgWriteram addr value => exact .inr ⟨addr, value, rfl⟩
  | hotspot0 _ | hotspot1 _ | hotspot2 _ | hotspot3 _ | hotspot4 _ | hotspot5 _ =>
    exact absurd hr (hotspotAccess_not_rejected h)
  | dbgUnlock | dbgSetlock _ | dbgForcebank _ => exact absurd hr (bracketCheck_not_rejected h)
  | dbgLock =>
    rw [exec, execDbgLock, ← ite_not] at h
    exact absurd hr (bracketCheck_not_rejected h)
  | _ =>
    cases h
    cases hr

/-- A rejected range read has looked at its range and at nothing else. -/
theorem readRange_rejected {ram : Memory} {start count : BitVec 13} (h : readRange ram start count s = .next t)
    (hr : t.result = .rejected c m n) :
    c = .ramBounds ∧ t = { s with result := .rejected .ramBounds m n } ∧
      ramSize < start.toNat + count.toNat ∧ m = start.toNat ∧ n = count.toNat := by
  rcases Nat.lt_or_ge ramSize (start.toNat + count.toNat) with hb | hb
  · rw [readRange_outside start count ram s hb] at h
    cases h
    cases hr
    exact ⟨rfl, rfl, hb, rfl, rfl⟩
  · rw [readRange_inside start count ram s hb] at h
    cases h
    cases hr

theorem exec_dbgWriteram_rejected {addr : BitVec 13} {value : Byte} (h : exec (.dbgWriteram addr value) s = .next t)
    (hr : t.result = .rejected c m n) :
    c = .ramBounds ∧ t = { s with result := .rejected .ramBounds m n } ∧
      ramSize ≤ addr.toNat ∧ m = addr.toNat ∧ n = 1 := by
  rcases Nat.lt_or_ge addr.toNat ramSize with hb | hb
  · rw [exec_dbgWriteram_inside addr value hb] at h
    cases h
    cases hr
  · rw [exec_dbgWriteram_outside addr value hb] at h
    cases h
    cases hr
    exact ⟨rfl, rfl, hb, rfl, rfl⟩

end

/-- Settles O15: the transaction is one of the three RAM requests, and each of them fails its bounds check. -/
theorem rejectedRequestsChangeNothing : Obligations.RejectedRequestsChangeNothing := by
  intro i s t c m n h hr
  rcases ramRequest_of_rejected h hr with ⟨start, count, hi⟩ | ⟨addr, value, rfl⟩
  · have hread : ∃ ram, readRange ram start count s = .next t := by
      rcases hi with rfl | rfl <;> exact ⟨_, h⟩
    obtain ⟨ram, hread⟩ := hread
    obtain ⟨hc, ht, hbound⟩ := readRange_rejected hread hr
    exact ⟨hc, ht, .inl ⟨start, count, hi, hbound⟩⟩
  · obtain ⟨hc, ht, hbound⟩ := exec_dbgWriteram_rejected h hr
    exact ⟨hc, ht, .inr ⟨addr, value, rfl, hbound⟩⟩

end Sys2Proof.Machine
